-- ==== Sys2Proof/Word.lean ====
section
/-! DEFINITION. The two word types of the machine (00_scope.md R7: 8-bit data, 16-bit addresses). -/

namespace Sys2Proof

/-- A data byte: registers A, X, Y, SP, P, one memory location, one operand byte (R7). -/
abbrev Byte := BitVec 8

/-- A 16-bit address or program counter; `+` and `-` wrap modulo 65536 (R9). -/
abbrev Addr := BitVec 16

end Sys2Proof
end

