-- ==== Sys2Proof/Syntax.lean ====
section
/-! DEFINITION. The instruction set as data: mnemonics, addressing modes, the rows of the dispatch table
(30_encoding.md R83), and `Instr`, one constructor per row of spec/opcode_table.json, that is, per opcode byte. -/

namespace Sys2Proof

/-- The 56 legal mnemonics and the 19 illegal names (R90). -/
inductive Mnemonic where
  | adc | and | asl | bcc | bcs | beq | bit | bmi | bne | bpl | brk | bvc | bvs | clc
  | cld | cli | clv | cmp | cpx | cpy | dec | dex | dey | eor | inc | inx | iny | jmp
  | jsr | lda | ldx | ldy | lsr | nop | ora | pha | php | pla | plp | rol | ror | rti
  | rts | sbc | sec | sed | sei | sta | stx | sty | tax | tay | tsx | txa | txs | tya
  | ahx | alr | anc | arr | axs | dcp | isc | kil | las | lax | rla | rra | sax | shx
  | shy | slo | sre | tas | xaa
deriving DecidableEq, Repr

/-- The resolvers that return an AbsoluteAddress (40_addressing_modes.md R117). -/
inductive AddrMode where
  | absolute | absoluteX | absoluteXConst | absoluteY | absoluteYConst
  | immediate
  | indirect | indirectX | indirectY | indirectYConst
  | zeroPage | zeroPageX | zeroPageY
deriving DecidableEq, Repr

/-- The fifteen resolvers (R116, R117): Implied, Relative, and the thirteen that return an AbsoluteAddress. -/
inductive Mode where
  | implied
  | relative
  | addr (m : AddrMode)
deriving DecidableEq, Repr

/-- Operand bytes consumed by a mode (R82, R117). -/
def Mode.operandBytes : Mode → Nat
  | .implied => 0
  | .relative => 1
  | .addr .absolute | .addr .absoluteX | .addr .absoluteXConst | .addr .absoluteY | .addr .absoluteYConst => 2
  | .addr .indirect => 2
  | .addr .immediate => 1
  | .addr .indirectX | .addr .indirectY | .addr .indirectYConst => 1
  | .addr .zeroPage | .addr .zeroPageX | .addr .zeroPageY => 1

/-- Legal or illegal opcode byte (R90). -/
inductive OpClass where
  | legal
  | illegal
deriving DecidableEq, Repr

/-- One row of the dispatch table, the instruction descriptor of R83: opcode byte, mnemonic, addressing mode, base
cycle cost, class. -/
structure Row where
  opcode : Byte
  mnemonic : Mnemonic
  mode : Mode
  base : Nat
  cls : OpClass
deriving DecidableEq, Repr

/-- One constructor per opcode byte. The suffix names the mode: Imm, Zp, Zpx, Zpy, Abs, Abx, Aby, Ind, Izx, Izy,
Acc (the accumulator form of a shift, mode Implied). Where two bytes share mnemonic and mode the suffix is the
opcode byte. `n` is the operand byte of format F2, `l` and `h` the low and high bytes of F3 (R81). The rows
with operand bytes stand first, in opcode order, then the one-byte rows, in opcode order. -/
inductive Instr where
  /-- 0x01 ORA ($nn,X) (Indirect,X, legal, R131) -/
  | oraIzx (n : Byte)
  /-- 0x03 SLO ($nn,X) (Indirect,X, illegal, R234) -/
  | sloIzx (n : Byte)
  /-- 0x04 NOP $nn (Zero Page, illegal, R232) -/
  | nop04 (n : Byte)
  /-- 0x05 ORA $nn (Zero Page, legal, R131) -/
  | oraZp (n : Byte)
  /-- 0x06 ASL $nn (Zero Page, legal, R141) -/
  | aslZp (n : Byte)
  /-- 0x07 SLO $nn (Zero Page, illegal, R234) -/
  | sloZp (n : Byte)
  /-- 0x09 ORA #$nn (Immediate, legal, R131) -/
  | oraImm (n : Byte)
  /-- 0x0B ANC #$nn (Immediate, illegal, R242) -/
  | anc0B (n : Byte)
  /-- 0x0C NOP $nnnn (Absolute, illegal, R232) -/
  | nop0C (l h : Byte)
  /-- 0x0D ORA $nnnn (Absolute, legal, R131) -/
  | oraAbs (l h : Byte)
  /-- 0x0E ASL $nnnn (Absolute, legal, R141) -/
  | aslAbs (l h : Byte)
  /-- 0x0F SLO $nnnn (Absolute, illegal, R234) -/
  | sloAbs (l h : Byte)
  /-- 0x10 BPL $nnnn (target) (Relative, legal, R156) -/
  | bpl (n : Byte)
  /-- 0x11 ORA ($nn),Y (Indirect,Y, legal, R131) -/
  | oraIzy (n : Byte)
  /-- 0x13 SLO ($nn),Y (Indirect,Y const-cycle, illegal, R234) -/
  | sloIzy (n : Byte)
  /-- 0x14 NOP $nn,X (Zero Page,X, illegal, R232) -/
  | nop14 (n : Byte)
  /-- 0x15 ORA $nn,X (Zero Page,X, legal, R131) -/
  | oraZpx (n : Byte)
  /-- 0x16 ASL $nn,X (Zero Page,X, legal, R141) -/
  | aslZpx (n : Byte)
  /-- 0x17 SLO $nn,X (Zero Page,X, illegal, R234) -/
  | sloZpx (n : Byte)
  /-- 0x19 ORA $nnnn,Y (Absolute,Y, legal, R131) -/
  | oraAby (l h : Byte)
  /-- 0x1B SLO $nnnn,Y (Absolute,Y const-cycle, illegal, R234) -/
  | sloAby (l h : Byte)
  /-- 0x1C NOP $nnnn,X (Absolute,X, illegal, R232) -/
  | nop1C (l h : Byte)
  /-- 0x1D ORA $nnnn,X (Absolute,X, legal, R131) -/
  | oraAbx (l h : Byte)
  /-- 0x1E ASL $nnnn,X (Absolute,X const-cycle, legal, R141) -/
  | aslAbx (l h : Byte)
  /-- 0x1F SLO $nnnn,X (Absolute,X const-cycle, illegal, R234) -/
  | sloAbx (l h : Byte)
  /-- 0x20 JSR $nnnn (Absolute, legal, R177) -/
  | jsr (l h : Byte)
  /-- 0x21 AND ($nn,X) (Indirect,X, legal, R130) -/
  | andIzx (n : Byte)
  /-- 0x23 RLA ($nn,X) (Indirect,X, illegal, R235) -/
  | rlaIzx (n : Byte)
  /-- 0x24 BIT $nn (Zero Page, legal, R133) -/
  | bitZp (n : Byte)
  /-- 0x25 AND $nn (Zero Page, legal, R130) -/
  | andZp (n : Byte)
  /-- 0x26 ROL $nn (Zero Page, legal, R143) -/
  | rolZp (n : Byte)
  /-- 0x27 RLA $nn (Zero Page, illegal, R235) -/
  | rlaZp (n : Byte)
  /-- 0x29 AND #$nn (Immediate, legal, R130) -/
  | andImm (n : Byte)
  /-- 0x2B ANC #$nn (Immediate, illegal, R242) -/
  | anc2B (n : Byte)
  /-- 0x2C BIT $nnnn (Absolute, legal, R133) -/
  | bitAbs (l h : Byte)
  /-- 0x2D AND $nnnn (Absolute, legal, R130) -/
  | andAbs (l h : Byte)
  /-- 0x2E ROL $nnnn (Absolute, legal, R143) -/
  | rolAbs (l h : Byte)
  /-- 0x2F RLA $nnnn (Absolute, illegal, R235) -/
  | rlaAbs (l h : Byte)
  /-- 0x30 BMI $nnnn (target) (Relative, legal, R155) -/
  | bmi (n : Byte)
  /-- 0x31 AND ($nn),Y (Indirect,Y, legal, R130) -/
  | andIzy (n : Byte)
  /-- 0x33 RLA ($nn),Y (Indirect,Y const-cycle, illegal, R235) -/
  | rlaIzy (n : Byte)
  /-- 0x34 NOP $nn,X (Zero Page,X, illegal, R232) -/
  | nop34 (n : Byte)
  /-- 0x35 AND $nn,X (Zero Page,X, legal, R130) -/
  | andZpx (n : Byte)
  /-- 0x36 ROL $nn,X (Zero Page,X, legal, R143) -/
  | rolZpx (n : Byte)
  /-- 0x37 RLA $nn,X (Zero Page,X, illegal, R235) -/
  | rlaZpx (n : Byte)
  /-- 0x39 AND $nnnn,Y (Absolute,Y, legal, R130) -/
  | andAby (l h : Byte)
  /-- 0x3B RLA $nnnn,Y (Absolute,Y const-cycle, illegal, R235) -/
  | rlaAby (l h : Byte)
  /-- 0x3C NOP $nnnn,X (Absolute,X, illegal, R232) -/
  | nop3C (l h : Byte)
  /-- 0x3D AND $nnnn,X (Absolute,X, legal, R130) -/
  | andAbx (l h : Byte)
  /-- 0x3E ROL $nnnn,X (Absolute,X const-cycle, legal, R143) -/
  | rolAbx (l h : Byte)
  /-- 0x3F RLA $nnnn,X (Absolute,X const-cycle, illegal, R235) -/
  | rlaAbx (l h : Byte)
  /-- 0x41 EOR ($nn,X) (Indirect,X, legal, R132) -/
  | eorIzx (n : Byte)
  /-- 0x43 SRE ($nn,X) (Indirect,X, illegal, R236) -/
  | sreIzx (n : Byte)
  /-- 0x44 NOP $nn (Zero Page, illegal, R232) -/
  | nop44 (n : Byte)
  /-- 0x45 EOR $nn (Zero Page, legal, R132) -/
  | eorZp (n : Byte)
  /-- 0x46 LSR $nn (Zero Page, legal, R142) -/
  | lsrZp (n : Byte)
  /-- 0x47 SRE $nn (Zero Page, illegal, R236) -/
  | sreZp (n : Byte)
  /-- 0x49 EOR #$nn (Immediate, legal, R132) -/
  | eorImm (n : Byte)
  /-- 0x4B ALR #$nn (Immediate, illegal, R243) -/
  | alr (n : Byte)
  /-- 0x4C JMP $nnnn (Absolute, legal, R181) -/
  | jmpAbs (l h : Byte)
  /-- 0x4D EOR $nnnn (Absolute, legal, R132) -/
  | eorAbs (l h : Byte)
  /-- 0x4E LSR $nnnn (Absolute, legal, R142) -/
  | lsrAbs (l h : Byte)
  /-- 0x4F SRE $nnnn (Absolute, illegal, R236) -/
  | sreAbs (l h : Byte)
  /-- 0x50 BVC $nnnn (target) (Relative, legal, R157) -/
  | bvc (n : Byte)
  /-- 0x51 EOR ($nn),Y (Indirect,Y, legal, R132) -/
  | eorIzy (n : Byte)
  /-- 0x53 SRE ($nn),Y (Indirect,Y const-cycle, illegal, R236) -/
  | sreIzy (n : Byte)
  /-- 0x54 NOP $nn,X (Zero Page,X, illegal, R232) -/
  | nop54 (n : Byte)
  /-- 0x55 EOR $nn,X (Zero Page,X, legal, R132) -/
  | eorZpx (n : Byte)
  /-- 0x56 LSR $nn,X (Zero Page,X, legal, R142) -/
  | lsrZpx (n : Byte)
  /-- 0x57 SRE $nn,X (Zero Page,X, illegal, R236) -/
  | sreZpx (n : Byte)
  /-- 0x59 EOR $nnnn,Y (Absolute,Y, legal, R132) -/
  | eorAby (l h : Byte)
  /-- 0x5B SRE $nnnn,Y (Absolute,Y const-cycle, illegal, R236) -/
  | sreAby (l h : Byte)
  /-- 0x5C NOP $nnnn,X (Absolute,X, illegal, R232) -/
  | nop5C (l h : Byte)
  /-- 0x5D EOR $nnnn,X (Absolute,X, legal, R132) -/
  | eorAbx (l h : Byte)
  /-- 0x5E LSR $nnnn,X (Absolute,X const-cycle, legal, R142) -/
  | lsrAbx (l h : Byte)
  /-- 0x5F SRE $nnnn,X (Absolute,X const-cycle, illegal, R236) -/
  | sreAbx (l h : Byte)
  /-- 0x61 ADC ($nn,X) (Indirect,X, legal, R122) -/
  | adcIzx (n : Byte)
  /-- 0x63 RRA ($nn,X) (Indirect,X, illegal, R237) -/
  | rraIzx (n : Byte)
  /-- 0x64 NOP $nn (Zero Page, illegal, R232) -/
  | nop64 (n : Byte)
  /-- 0x65 ADC $nn (Zero Page, legal, R122) -/
  | adcZp (n : Byte)
  /-- 0x66 ROR $nn (Zero Page, legal, R144) -/
  | rorZp (n : Byte)
  /-- 0x67 RRA $nn (Zero Page, illegal, R237) -/
  | rraZp (n : Byte)
  /-- 0x69 ADC #$nn (Immediate, legal, R122) -/
  | adcImm (n : Byte)
  /-- 0x6B ARR #$nn (Immediate, illegal, R244) -/
  | arr (n : Byte)
  /-- 0x6C JMP ($nnnn) (Indirect, legal, R181) -/
  | jmpInd (l h : Byte)
  /-- 0x6D ADC $nnnn (Absolute, legal, R122) -/
  | adcAbs (l h : Byte)
  /-- 0x6E ROR $nnnn (Absolute, legal, R144) -/
  | rorAbs (l h : Byte)
  /-- 0x6F RRA $nnnn (Absolute, illegal, R237) -/
  | rraAbs (l h : Byte)
  /-- 0x70 BVS $nnnn (target) (Relative, legal, R158) -/
  | bvs (n : Byte)
  /-- 0x71 ADC ($nn),Y (Indirect,Y, legal, R122) -/
  | adcIzy (n : Byte)
  /-- 0x73 RRA ($nn),Y (Indirect,Y const-cycle, illegal, R237) -/
  | rraIzy (n : Byte)
  /-- 0x74 NOP $nn,X (Zero Page,X, illegal, R232) -/
  | nop74 (n : Byte)
  /-- 0x75 ADC $nn,X (Zero Page,X, legal, R122) -/
  | adcZpx (n : Byte)
  /-- 0x76 ROR $nn,X (Zero Page,X, legal, R144) -/
  | rorZpx (n : Byte)
  /-- 0x77 RRA $nn,X (Zero Page,X, illegal, R237) -/
  | rraZpx (n : Byte)
  /-- 0x79 ADC $nnnn,Y (Absolute,Y, legal, R122) -/
  | adcAby (l h : Byte)
  /-- 0x7B RRA $nnnn,Y (Absolute,Y const-cycle, illegal, R237) -/
  | rraAby (l h : Byte)
  /-- 0x7C NOP $nnnn,X (Absolute,X, illegal, R232) -/
  | nop7C (l h : Byte)
  /-- 0x7D ADC $nnnn,X (Absolute,X, legal, R122) -/
  | adcAbx (l h : Byte)
  /-- 0x7E ROR $nnnn,X (Absolute,X const-cycle, legal, R144) -/
  | rorAbx (l h : Byte)
  /-- 0x7F RRA $nnnn,X (Absolute,X const-cycle, illegal, R237) -/
  | rraAbx (l h : Byte)
  /-- 0x80 NOP #$nn (Immediate, illegal, R232) -/
  | nop80 (n : Byte)
  /-- 0x81 STA ($nn,X) (Indirect,X, legal, R213) -/
  | staIzx (n : Byte)
  /-- 0x82 NOP #$nn (Immediate, illegal, R232) -/
  | nop82 (n : Byte)
  /-- 0x83 SAX ($nn,X) (Indirect,X, illegal, R238) -/
  | saxIzx (n : Byte)
  /-- 0x84 STY $nn (Zero Page, legal, R215) -/
  | styZp (n : Byte)
  /-- 0x85 STA $nn (Zero Page, legal, R213) -/
  | staZp (n : Byte)
  /-- 0x86 STX $nn (Zero Page, legal, R214) -/
  | stxZp (n : Byte)
  /-- 0x87 SAX $nn (Zero Page, illegal, R238) -/
  | saxZp (n : Byte)
  /-- 0x89 NOP #$nn (Immediate, illegal, R232) -/
  | nop89 (n : Byte)
  /-- 0x8B XAA #$nn (Immediate, illegal, R245) -/
  | xaa (n : Byte)
  /-- 0x8C STY $nnnn (Absolute, legal, R215) -/
  | styAbs (l h : Byte)
  /-- 0x8D STA $nnnn (Absolute, legal, R213) -/
  | staAbs (l h : Byte)
  /-- 0x8E STX $nnnn (Absolute, legal, R214) -/
  | stxAbs (l h : Byte)
  /-- 0x8F SAX $nnnn (Absolute, illegal, R238) -/
  | saxAbs (l h : Byte)
  /-- 0x90 BCC $nnnn (target) (Relative, legal, R151) -/
  | bcc (n : Byte)
  /-- 0x91 STA ($nn),Y (Indirect,Y const-cycle, legal, R213) -/
  | staIzy (n : Byte)
  /-- 0x93 AHX ($nn),Y (Indirect,Y const-cycle, illegal, R247) -/
  | ahxIzy (n : Byte)
  /-- 0x94 STY $nn,X (Zero Page,X, legal, R215) -/
  | styZpx (n : Byte)
  /-- 0x95 STA $nn,X (Zero Page,X, legal, R213) -/
  | staZpx (n : Byte)
  /-- 0x96 STX $nn,Y (Zero Page,Y, legal, R214) -/
  | stxZpy (n : Byte)
  /-- 0x97 SAX $nn,Y (Zero Page,Y, illegal, R238) -/
  | saxZpy (n : Byte)
  /-- 0x99 STA $nnnn,Y (Absolute,Y const-cycle, legal, R213) -/
  | staAby (l h : Byte)
  /-- 0x9B TAS $nnnn,Y (Absolute,Y const-cycle, illegal, R250) -/
  | tas (l h : Byte)
  /-- 0x9C SHY $nnnn,X (Absolute,X const-cycle, illegal, R248) -/
  | shy (l h : Byte)
  /-- 0x9D STA $nnnn,X (Absolute,X const-cycle, legal, R213) -/
  | staAbx (l h : Byte)
  /-- 0x9E SHX $nnnn,Y (Absolute,Y const-cycle, illegal, R249) -/
  | shx (l h : Byte)
  /-- 0x9F AHX $nnnn,Y (Absolute,Y const-cycle, illegal, R247) -/
  | ahxAby (l h : Byte)
  /-- 0xA0 LDY #$nn (Immediate, legal, R212) -/
  | ldyImm (n : Byte)
  /-- 0xA1 LDA ($nn,X) (Indirect,X, legal, R210) -/
  | ldaIzx (n : Byte)
  /-- 0xA2 LDX #$nn (Immediate, legal, R211) -/
  | ldxImm (n : Byte)
  /-- 0xA3 LAX ($nn,X) (Indirect,X, illegal, R239) -/
  | laxIzx (n : Byte)
  /-- 0xA4 LDY $nn (Zero Page, legal, R212) -/
  | ldyZp (n : Byte)
  /-- 0xA5 LDA $nn (Zero Page, legal, R210) -/
  | ldaZp (n : Byte)
  /-- 0xA6 LDX $nn (Zero Page, legal, R211) -/
  | ldxZp (n : Byte)
  /-- 0xA7 LAX $nn (Zero Page, illegal, R239) -/
  | laxZp (n : Byte)
  /-- 0xA9 LDA #$nn (Immediate, legal, R210) -/
  | ldaImm (n : Byte)
  /-- 0xAB LAX #$nn (Immediate, illegal, R239) -/
  | laxImm (n : Byte)
  /-- 0xAC LDY $nnnn (Absolute, legal, R212) -/
  | ldyAbs (l h : Byte)
  /-- 0xAD LDA $nnnn (Absolute, legal, R210) -/
  | ldaAbs (l h : Byte)
  /-- 0xAE LDX $nnnn (Absolute, legal, R211) -/
  | ldxAbs (l h : Byte)
  /-- 0xAF LAX $nnnn (Absolute, illegal, R239) -/
  | laxAbs (l h : Byte)
  /-- 0xB0 BCS $nnnn (target) (Relative, legal, R152) -/
  | bcs (n : Byte)
  /-- 0xB1 LDA ($nn),Y (Indirect,Y, legal, R210) -/
  | ldaIzy (n : Byte)
  /-- 0xB3 LAX ($nn),Y (Indirect,Y, illegal, R239) -/
  | laxIzy (n : Byte)
  /-- 0xB4 LDY $nn,X (Zero Page,X, legal, R212) -/
  | ldyZpx (n : Byte)
  /-- 0xB5 LDA $nn,X (Zero Page,X, legal, R210) -/
  | ldaZpx (n : Byte)
  /-- 0xB6 LDX $nn,Y (Zero Page,Y, legal, R211) -/
  | ldxZpy (n : Byte)
  /-- 0xB7 LAX $nn,Y (Zero Page,Y, illegal, R239) -/
  | laxZpy (n : Byte)
  /-- 0xB9 LDA $nnnn,Y (Absolute,Y, legal, R210) -/
  | ldaAby (l h : Byte)
  /-- 0xBB LAS $nnnn,Y (Absolute,Y, illegal, R251) -/
  | las (l h : Byte)
  /-- 0xBC LDY $nnnn,X (Absolute,X, legal, R212) -/
  | ldyAbx (l h : Byte)
  /-- 0xBD LDA $nnnn,X (Absolute,X, legal, R210) -/
  | ldaAbx (l h : Byte)
  /-- 0xBE LDX $nnnn,Y (Absolute,Y, legal, R211) -/
  | ldxAby (l h : Byte)
  /-- 0xBF LAX $nnnn,Y (Absolute,Y, illegal, R239) -/
  | laxAby (l h : Byte)
  /-- 0xC0 CPY #$nn (Immediate, legal, R168) -/
  | cpyImm (n : Byte)
  /-- 0xC1 CMP ($nn,X) (Indirect,X, legal, R166) -/
  | cmpIzx (n : Byte)
  /-- 0xC2 NOP #$nn (Immediate, illegal, R232) -/
  | nopC2 (n : Byte)
  /-- 0xC3 DCP ($nn,X) (Indirect,X, illegal, R240) -/
  | dcpIzx (n : Byte)
  /-- 0xC4 CPY $nn (Zero Page, legal, R168) -/
  | cpyZp (n : Byte)
  /-- 0xC5 CMP $nn (Zero Page, legal, R166) -/
  | cmpZp (n : Byte)
  /-- 0xC6 DEC $nn (Zero Page, legal, R217) -/
  | decZp (n : Byte)
  /-- 0xC7 DCP $nn (Zero Page, illegal, R240) -/
  | dcpZp (n : Byte)
  /-- 0xC9 CMP #$nn (Immediate, legal, R166) -/
  | cmpImm (n : Byte)
  /-- 0xCB AXS #$nn (Immediate, illegal, R246) -/
  | axs (n : Byte)
  /-- 0xCC CPY $nnnn (Absolute, legal, R168) -/
  | cpyAbs (l h : Byte)
  /-- 0xCD CMP $nnnn (Absolute, legal, R166) -/
  | cmpAbs (l h : Byte)
  /-- 0xCE DEC $nnnn (Absolute, legal, R217) -/
  | decAbs (l h : Byte)
  /-- 0xCF DCP $nnnn (Absolute, illegal, R240) -/
  | dcpAbs (l h : Byte)
  /-- 0xD0 BNE $nnnn (target) (Relative, legal, R154) -/
  | bne (n : Byte)
  /-- 0xD1 CMP ($nn),Y (Indirect,Y, legal, R166) -/
  | cmpIzy (n : Byte)
  /-- 0xD3 DCP ($nn),Y (Indirect,Y const-cycle, illegal, R240) -/
  | dcpIzy (n : Byte)
  /-- 0xD4 NOP $nn,X (Zero Page,X, illegal, R232) -/
  | nopD4 (n : Byte)
  /-- 0xD5 CMP $nn,X (Zero Page,X, legal, R166) -/
  | cmpZpx (n : Byte)
  /-- 0xD6 DEC $nn,X (Zero Page,X, legal, R217) -/
  | decZpx (n : Byte)
  /-- 0xD7 DCP $nn,X (Zero Page,X, illegal, R240) -/
  | dcpZpx (n : Byte)
  /-- 0xD9 CMP $nnnn,Y (Absolute,Y, legal, R166) -/
  | cmpAby (l h : Byte)
  /-- 0xDB DCP $nnnn,Y (Absolute,Y const-cycle, illegal, R240) -/
  | dcpAby (l h : Byte)
  /-- 0xDC NOP $nnnn,X (Absolute,X, illegal, R232) -/
  | nopDC (l h : Byte)
  /-- 0xDD CMP $nnnn,X (Absolute,X, legal, R166) -/
  | cmpAbx (l h : Byte)
  /-- 0xDE DEC $nnnn,X (Absolute,X const-cycle, legal, R217) -/
  | decAbx (l h : Byte)
  /-- 0xDF DCP $nnnn,X (Absolute,X const-cycle, illegal, R240) -/
  | dcpAbx (l h : Byte)
  /-- 0xE0 CPX #$nn (Immediate, legal, R167) -/
  | cpxImm (n : Byte)
  /-- 0xE1 SBC ($nn,X) (Indirect,X, legal, R123) -/
  | sbcIzx (n : Byte)
  /-- 0xE2 NOP #$nn (Immediate, illegal, R232) -/
  | nopE2 (n : Byte)
  /-- 0xE3 ISC ($nn,X) (Indirect,X, illegal, R241) -/
  | iscIzx (n : Byte)
  /-- 0xE4 CPX $nn (Zero Page, legal, R167) -/
  | cpxZp (n : Byte)
  /-- 0xE5 SBC $nn (Zero Page, legal, R123) -/
  | sbcZp (n : Byte)
  /-- 0xE6 INC $nn (Zero Page, legal, R216) -/
  | incZp (n : Byte)
  /-- 0xE7 ISC $nn (Zero Page, illegal, R241) -/
  | iscZp (n : Byte)
  /-- 0xE9 SBC #$nn (Immediate, legal, R123) -/
  | sbcImm (n : Byte)
  /-- 0xEB SBC #$nn (Immediate, illegal, R233) -/
  | sbcEB (n : Byte)
  /-- 0xEC CPX $nnnn (Absolute, legal, R167) -/
  | cpxAbs (l h : Byte)
  /-- 0xED SBC $nnnn (Absolute, legal, R123) -/
  | sbcAbs (l h : Byte)
  /-- 0xEE INC $nnnn (Absolute, legal, R216) -/
  | incAbs (l h : Byte)
  /-- 0xEF ISC $nnnn (Absolute, illegal, R241) -/
  | iscAbs (l h : Byte)
  /-- 0xF0 BEQ $nnnn (target) (Relative, legal, R153) -/
  | beq (n : Byte)
  /-- 0xF1 SBC ($nn),Y (Indirect,Y, legal, R123) -/
  | sbcIzy (n : Byte)
  /-- 0xF3 ISC ($nn),Y (Indirect,Y const-cycle, illegal, R241) -/
  | iscIzy (n : Byte)
  /-- 0xF4 NOP $nn,X (Zero Page,X, illegal, R232) -/
  | nopF4 (n : Byte)
  /-- 0xF5 SBC $nn,X (Zero Page,X, legal, R123) -/
  | sbcZpx (n : Byte)
  /-- 0xF6 INC $nn,X (Zero Page,X, legal, R216) -/
  | incZpx (n : Byte)
  /-- 0xF7 ISC $nn,X (Zero Page,X, illegal, R241) -/
  | iscZpx (n : Byte)
  /-- 0xF9 SBC $nnnn,Y (Absolute,Y, legal, R123) -/
  | sbcAby (l h : Byte)
  /-- 0xFB ISC $nnnn,Y (Absolute,Y const-cycle, illegal, R241) -/
  | iscAby (l h : Byte)
  /-- 0xFC NOP $nnnn,X (Absolute,X, illegal, R232) -/
  | nopFC (l h : Byte)
  /-- 0xFD SBC $nnnn,X (Absolute,X, legal, R123) -/
  | sbcAbx (l h : Byte)
  /-- 0xFE INC $nnnn,X (Absolute,X const-cycle, legal, R216) -/
  | incAbx (l h : Byte)
  /-- 0xFF ISC $nnnn,X (Absolute,X const-cycle, illegal, R241) -/
  | iscAbx (l h : Byte)
  /-- 0x00 BRK (Implied, legal, R179) -/
  | brk
  /-- 0x02 KIL (Implied, illegal, R252) -/
  | kil02
  /-- 0x08 PHP (Implied, legal, R174) -/
  | php
  /-- 0x0A ASL A (Implied, legal, R141) -/
  | aslAcc
  /-- 0x12 KIL (Implied, illegal, R252) -/
  | kil12
  /-- 0x18 CLC (Implied, legal, R196) -/
  | clc
  /-- 0x1A NOP (Implied, illegal, R232) -/
  | nop1A
  /-- 0x22 KIL (Implied, illegal, R252) -/
  | kil22
  /-- 0x28 PLP (Implied, legal, R176) -/
  | plp
  /-- 0x2A ROL A (Implied, legal, R143) -/
  | rolAcc
  /-- 0x32 KIL (Implied, illegal, R252) -/
  | kil32
  /-- 0x38 SEC (Implied, legal, R200) -/
  | sec
  /-- 0x3A NOP (Implied, illegal, R232) -/
  | nop3A
  /-- 0x40 RTI (Implied, legal, R180) -/
  | rti
  /-- 0x42 KIL (Implied, illegal, R252) -/
  | kil42
  /-- 0x48 PHA (Implied, legal, R173) -/
  | pha
  /-- 0x4A LSR A (Implied, legal, R142) -/
  | lsrAcc
  /-- 0x52 KIL (Implied, illegal, R252) -/
  | kil52
  /-- 0x58 CLI (Implied, legal, R198) -/
  | cli
  /-- 0x5A NOP (Implied, illegal, R232) -/
  | nop5A
  /-- 0x60 RTS (Implied, legal, R178) -/
  | rts
  /-- 0x62 KIL (Implied, illegal, R252) -/
  | kil62
  /-- 0x68 PLA (Implied, legal, R175) -/
  | pla
  /-- 0x6A ROR A (Implied, legal, R144) -/
  | rorAcc
  /-- 0x72 KIL (Implied, illegal, R252) -/
  | kil72
  /-- 0x78 SEI (Implied, legal, R202) -/
  | sei
  /-- 0x7A NOP (Implied, illegal, R232) -/
  | nop7A
  /-- 0x88 DEY (Implied, legal, R221) -/
  | dey
  /-- 0x8A TXA (Implied, legal, R192) -/
  | txa
  /-- 0x92 KIL (Implied, illegal, R252) -/
  | kil92
  /-- 0x98 TYA (Implied, legal, R193) -/
  | tya
  /-- 0x9A TXS (Implied, legal, R195) -/
  | txs
  /-- 0xA8 TAY (Implied, legal, R191) -/
  | tay
  /-- 0xAA TAX (Implied, legal, R190) -/
  | tax
  /-- 0xB2 KIL (Implied, illegal, R252) -/
  | kilB2
  /-- 0xB8 CLV (Implied, legal, R199) -/
  | clv
  /-- 0xBA TSX (Implied, legal, R194) -/
  | tsx
  /-- 0xC8 INY (Implied, legal, R219) -/
  | iny
  /-- 0xCA DEX (Implied, legal, R220) -/
  | dex
  /-- 0xD2 KIL (Implied, illegal, R252) -/
  | kilD2
  /-- 0xD8 CLD (Implied, legal, R197) -/
  | cld
  /-- 0xDA NOP (Implied, illegal, R232) -/
  | nopDA
  /-- 0xE8 INX (Implied, legal, R218) -/
  | inx
  /-- 0xEA NOP (Implied, legal, R230) -/
  | nop
  /-- 0xF2 KIL (Implied, illegal, R252) -/
  | kilF2
  /-- 0xF8 SED (Implied, legal, R201) -/
  | sed
  /-- 0xFA NOP (Implied, illegal, R232) -/
  | nopFA
deriving DecidableEq, Repr

end Sys2Proof
end

