-- ==== Sys2Proof/WellFormed.lean ====
section
/-! DEFINITION. Well-formedness. Every field of `Instr` is a byte, so a term of `Instr` cannot be ill-formed
in its operands; what can be wrong is a ROW of the dispatch table (30_encoding.md R96), and that is what is
checked here, row by row. -/

namespace Sys2Proof

/-- What a semantic function does with its operand; it decides the descriptors it accepts (R96). -/
inductive Shape where
  | implied
  | relative
  | reads
  | writes
  | modifies
  | shifts
  | jumps
  | undocumentedNop
deriving DecidableEq, Repr

/-- The shape of each mnemonic (R96, R94). NOP is `undocumentedNop`: its illegal rows use six modes (R232). -/
def Mnemonic.shape : Mnemonic → Shape
  | .bcc | .bcs | .beq | .bne | .bmi | .bpl | .bvc | .bvs => .relative
  | .adc | .sbc | .and | .ora | .eor | .bit | .cmp | .cpx | .cpy | .lda | .ldx | .ldy => .reads
  | .lax | .las | .anc | .alr | .arr | .xaa | .axs => .reads
  | .sta | .stx | .sty | .sax | .ahx | .shy | .shx | .tas => .writes
  | .inc | .dec | .slo | .rla | .sre | .rra | .dcp | .isc => .modifies
  | .asl | .lsr | .rol | .ror => .shifts
  | .jmp | .jsr => .jumps
  | .nop => .undocumentedNop
  | .brk | .rti | .rts | .pha | .php | .pla | .plp | .kil => .implied
  | .tax | .tay | .txa | .tya | .tsx | .txs | .inx | .iny | .dex | .dey => .implied
  | .clc | .cld | .cli | .clv | .sec | .sed | .sei => .implied

/-- R96: "every row pairs a semantic function with a resolver whose descriptor variant it accepts". -/
def Shape.acceptsVariant : Shape → Mode → Bool
  | .implied, .implied => true
  | .relative, .relative => true
  | .reads, .addr _ => true
  | .writes, .addr _ => true
  | .modifies, .addr _ => true
  | .jumps, .addr _ => true
  | .shifts, .implied => true
  | .shifts, .addr _ => true
  | .undocumentedNop, .implied => true
  | .undocumentedNop, .addr _ => true
  | _, _ => false

/-- An instruction that writes its operand has no Immediate form (R213 "There is no Immediate form"; R93, R94). -/
def Row.writesNoImmediate (r : Row) : Bool :=
  match r.mnemonic.shape, r.mode with
  | .writes, .addr .immediate => false
  | .modifies, .addr .immediate => false
  | .shifts, .addr .immediate => false
  | .jumps, .addr .immediate => false
  | _, _ => true

/-- R107: the Indirect mode is "used only by JMP". -/
def Row.indirectOnlyJmp (r : Row) : Bool :=
  match r.mode with
  | .addr .indirect => decide (r.mnemonic = .jmp)
  | _ => true

/-- R94: "The smallest base cost in the table is 2 and the largest is 8". -/
def Row.costInRange (r : Row) : Bool :=
  decide (2 ≤ r.base) && decide (r.base ≤ 8)

/-- The 19 illegal names of R90. -/
def Mnemonic.illegalName : Mnemonic → Bool
  | .slo | .rla | .sre | .rra | .sax | .lax | .dcp | .isc | .anc | .alr | .arr | .xaa | .axs | .ahx | .shy
  | .shx | .tas | .las | .kil => true
  | _ => false

/-- R90: the 19 illegal names are illegal rows; the other 56 are legal, but for the undocumented NOP rows and
the one undocumented SBC row (0xEB). -/
def Row.classMatches (r : Row) : Bool :=
  if r.mnemonic.illegalName then decide (r.cls = .illegal)
  else if r.mnemonic = .nop then decide (r.cls = .legal ↔ r.opcode = 0xEA#8)
  else if r.mnemonic = .sbc then decide (r.cls = .legal ↔ r.opcode ≠ 0xEB#8)
  else decide (r.cls = .legal)

/-- The whole check of one row of the dispatch table. -/
def Row.wellFormed (r : Row) : Bool :=
  r.mnemonic.shape.acceptsVariant r.mode && r.writesNoImmediate && r.indirectOnlyJmp && r.costInRange
    && r.classMatches

end Sys2Proof
end

