-- ==== Sys2Proof/Decode.lean ====
section
/-! DEFINITION. The dispatch table (30_encoding.md R83 to R85) as `Instr.row`, the encoder, and the decoder.
"Decoding is by table lookup on all 8 bits" of the opcode byte (R81). The decoder is written as the opcode matrix
of R84, the encoder from the row list of R85. -/

namespace Sys2Proof

/-- The row of R85 each constructor stands for. -/
def Instr.row : Instr → Row
  | .brk => ⟨0x00#8, .brk, .implied, 7, .legal⟩
  | .oraIzx _ => ⟨0x01#8, .ora, (.addr .indirectX), 6, .legal⟩
  | .kil02 => ⟨0x02#8, .kil, .implied, 2, .illegal⟩
  | .sloIzx _ => ⟨0x03#8, .slo, (.addr .indirectX), 8, .illegal⟩
  | .nop04 _ => ⟨0x04#8, .nop, (.addr .zeroPage), 3, .illegal⟩
  | .oraZp _ => ⟨0x05#8, .ora, (.addr .zeroPage), 3, .legal⟩
  | .aslZp _ => ⟨0x06#8, .asl, (.addr .zeroPage), 5, .legal⟩
  | .sloZp _ => ⟨0x07#8, .slo, (.addr .zeroPage), 5, .illegal⟩
  | .php => ⟨0x08#8, .php, .implied, 3, .legal⟩
  | .oraImm _ => ⟨0x09#8, .ora, (.addr .immediate), 2, .legal⟩
  | .aslAcc => ⟨0x0A#8, .asl, .implied, 2, .legal⟩
  | .anc0B _ => ⟨0x0B#8, .anc, (.addr .immediate), 2, .illegal⟩
  | .nop0C _ _ => ⟨0x0C#8, .nop, (.addr .absolute), 4, .illegal⟩
  | .oraAbs _ _ => ⟨0x0D#8, .ora, (.addr .absolute), 4, .legal⟩
  | .aslAbs _ _ => ⟨0x0E#8, .asl, (.addr .absolute), 6, .legal⟩
  | .sloAbs _ _ => ⟨0x0F#8, .slo, (.addr .absolute), 6, .illegal⟩
  | .bpl _ => ⟨0x10#8, .bpl, .relative, 2, .legal⟩
  | .oraIzy _ => ⟨0x11#8, .ora, (.addr .indirectY), 5, .legal⟩
  | .kil12 => ⟨0x12#8, .kil, .implied, 2, .illegal⟩
  | .sloIzy _ => ⟨0x13#8, .slo, (.addr .indirectYConst), 8, .illegal⟩
  | .nop14 _ => ⟨0x14#8, .nop, (.addr .zeroPageX), 4, .illegal⟩
  | .oraZpx _ => ⟨0x15#8, .ora, (.addr .zeroPageX), 4, .legal⟩
  | .aslZpx _ => ⟨0x16#8, .asl, (.addr .zeroPageX), 6, .legal⟩
  | .sloZpx _ => ⟨0x17#8, .slo, (.addr .zeroPageX), 6, .illegal⟩
  | .clc => ⟨0x18#8, .clc, .implied, 2, .legal⟩
  | .oraAby _ _ => ⟨0x19#8, .ora, (.addr .absoluteY), 4, .legal⟩
  | .nop1A => ⟨0x1A#8, .nop, .implied, 2, .illegal⟩
  | .sloAby _ _ => ⟨0x1B#8, .slo, (.addr .absoluteYConst), 7, .illegal⟩
  | .nop1C _ _ => ⟨0x1C#8, .nop, (.addr .absoluteX), 4, .illegal⟩
  | .oraAbx _ _ => ⟨0x1D#8, .ora, (.addr .absoluteX), 4, .legal⟩
  | .aslAbx _ _ => ⟨0x1E#8, .asl, (.addr .absoluteXConst), 7, .legal⟩
  | .sloAbx _ _ => ⟨0x1F#8, .slo, (.addr .absoluteXConst), 7, .illegal⟩
  | .jsr _ _ => ⟨0x20#8, .jsr, (.addr .absolute), 6, .legal⟩
  | .andIzx _ => ⟨0x21#8, .and, (.addr .indirectX), 6, .legal⟩
  | .kil22 => ⟨0x22#8, .kil, .implied, 2, .illegal⟩
  | .rlaIzx _ => ⟨0x23#8, .rla, (.addr .indirectX), 8, .illegal⟩
  | .bitZp _ => ⟨0x24#8, .bit, (.addr .zeroPage), 3, .legal⟩
  | .andZp _ => ⟨0x25#8, .and, (.addr .zeroPage), 3, .legal⟩
  | .rolZp _ => ⟨0x26#8, .rol, (.addr .zeroPage), 5, .legal⟩
  | .rlaZp _ => ⟨0x27#8, .rla, (.addr .zeroPage), 5, .illegal⟩
  | .plp => ⟨0x28#8, .plp, .implied, 4, .legal⟩
  | .andImm _ => ⟨0x29#8, .and, (.addr .immediate), 2, .legal⟩
  | .rolAcc => ⟨0x2A#8, .rol, .implied, 2, .legal⟩
  | .anc2B _ => ⟨0x2B#8, .anc, (.addr .immediate), 2, .illegal⟩
  | .bitAbs _ _ => ⟨0x2C#8, .bit, (.addr .absolute), 4, .legal⟩
  | .andAbs _ _ => ⟨0x2D#8, .and, (.addr .absolute), 4, .legal⟩
  | .rolAbs _ _ => ⟨0x2E#8, .rol, (.addr .absolute), 6, .legal⟩
  | .rlaAbs _ _ => ⟨0x2F#8, .rla, (.addr .absolute), 6, .illegal⟩
  | .bmi _ => ⟨0x30#8, .bmi, .relative, 2, .legal⟩
  | .andIzy _ => ⟨0x31#8, .and, (.addr .indirectY), 5, .legal⟩
  | .kil32 => ⟨0x32#8, .kil, .implied, 2, .illegal⟩
  | .rlaIzy _ => ⟨0x33#8, .rla, (.addr .indirectYConst), 8, .illegal⟩
  | .nop34 _ => ⟨0x34#8, .nop, (.addr .zeroPageX), 4, .illegal⟩
  | .andZpx _ => ⟨0x35#8, .and, (.addr .zeroPageX), 4, .legal⟩
  | .rolZpx _ => ⟨0x36#8, .rol, (.addr .zeroPageX), 6, .legal⟩
  | .rlaZpx _ => ⟨0x37#8, .rla, (.addr .zeroPageX), 6, .illegal⟩
  | .sec => ⟨0x38#8, .sec, .implied, 2, .legal⟩
  | .andAby _ _ => ⟨0x39#8, .and, (.addr .absoluteY), 4, .legal⟩
  | .nop3A => ⟨0x3A#8, .nop, .implied, 2, .illegal⟩
  | .rlaAby _ _ => ⟨0x3B#8, .rla, (.addr .absoluteYConst), 7, .illegal⟩
  | .nop3C _ _ => ⟨0x3C#8, .nop, (.addr .absoluteX), 4, .illegal⟩
  | .andAbx _ _ => ⟨0x3D#8, .and, (.addr .absoluteX), 4, .legal⟩
  | .rolAbx _ _ => ⟨0x3E#8, .rol, (.addr .absoluteXConst), 7, .legal⟩
  | .rlaAbx _ _ => ⟨0x3F#8, .rla, (.addr .absoluteXConst), 7, .illegal⟩
  | .rti => ⟨0x40#8, .rti, .implied, 6, .legal⟩
  | .eorIzx _ => ⟨0x41#8, .eor, (.addr .indirectX), 6, .legal⟩
  | .kil42 => ⟨0x42#8, .kil, .implied, 2, .illegal⟩
  | .sreIzx _ => ⟨0x43#8, .sre, (.addr .indirectX), 8, .illegal⟩
  | .nop44 _ => ⟨0x44#8, .nop, (.addr .zeroPage), 3, .illegal⟩
  | .eorZp _ => ⟨0x45#8, .eor, (.addr .zeroPage), 3, .legal⟩
  | .lsrZp _ => ⟨0x46#8, .lsr, (.addr .zeroPage), 5, .legal⟩
  | .sreZp _ => ⟨0x47#8, .sre, (.addr .zeroPage), 5, .illegal⟩
  | .pha => ⟨0x48#8, .pha, .implied, 3, .legal⟩
  | .eorImm _ => ⟨0x49#8, .eor, (.addr .immediate), 2, .legal⟩
  | .lsrAcc => ⟨0x4A#8, .lsr, .implied, 2, .legal⟩
  | .alr _ => ⟨0x4B#8, .alr, (.addr .immediate), 2, .illegal⟩
  | .jmpAbs _ _ => ⟨0x4C#8, .jmp, (.addr .absolute), 3, .legal⟩
  | .eorAbs _ _ => ⟨0x4D#8, .eor, (.addr .absolute), 4, .legal⟩
  | .lsrAbs _ _ => ⟨0x4E#8, .lsr, (.addr .absolute), 6, .legal⟩
  | .sreAbs _ _ => ⟨0x4F#8, .sre, (.addr .absolute), 6, .illegal⟩
  | .bvc _ => ⟨0x50#8, .bvc, .relative, 2, .legal⟩
  | .eorIzy _ => ⟨0x51#8, .eor, (.addr .indirectY), 5, .legal⟩
  | .kil52 => ⟨0x52#8, .kil, .implied, 2, .illegal⟩
  | .sreIzy _ => ⟨0x53#8, .sre, (.addr .indirectYConst), 8, .illegal⟩
  | .nop54 _ => ⟨0x54#8, .nop, (.addr .zeroPageX), 4, .illegal⟩
  | .eorZpx _ => ⟨0x55#8, .eor, (.addr .zeroPageX), 4, .legal⟩
  | .lsrZpx _ => ⟨0x56#8, .lsr, (.addr .zeroPageX), 6, .legal⟩
  | .sreZpx _ => ⟨0x57#8, .sre, (.addr .zeroPageX), 6, .illegal⟩
  | .cli => ⟨0x58#8, .cli, .implied, 2, .legal⟩
  | .eorAby _ _ => ⟨0x59#8, .eor, (.addr .absoluteY), 4, .legal⟩
  | .nop5A => ⟨0x5A#8, .nop, .implied, 2, .illegal⟩
  | .sreAby _ _ => ⟨0x5B#8, .sre, (.addr .absoluteYConst), 7, .illegal⟩
  | .nop5C _ _ => ⟨0x5C#8, .nop, (.addr .absoluteX), 4, .illegal⟩
  | .eorAbx _ _ => ⟨0x5D#8, .eor, (.addr .absoluteX), 4, .legal⟩
  | .lsrAbx _ _ => ⟨0x5E#8, .lsr, (.addr .absoluteXConst), 7, .legal⟩
  | .sreAbx _ _ => ⟨0x5F#8, .sre, (.addr .absoluteXConst), 7, .illegal⟩
  | .rts => ⟨0x60#8, .rts, .implied, 6, .legal⟩
  | .adcIzx _ => ⟨0x61#8, .adc, (.addr .indirectX), 6, .legal⟩
  | .kil62 => ⟨0x62#8, .kil, .implied, 2, .illegal⟩
  | .rraIzx _ => ⟨0x63#8, .rra, (.addr .indirectX), 8, .illegal⟩
  | .nop64 _ => ⟨0x64#8, .nop, (.addr .zeroPage), 3, .illegal⟩
  | .adcZp _ => ⟨0x65#8, .adc, (.addr .zeroPage), 3, .legal⟩
  | .rorZp _ => ⟨0x66#8, .ror, (.addr .zeroPage), 5, .legal⟩
  | .rraZp _ => ⟨0x67#8, .rra, (.addr .zeroPage), 5, .illegal⟩
  | .pla => ⟨0x68#8, .pla, .implied, 4, .legal⟩
  | .adcImm _ => ⟨0x69#8, .adc, (.addr .immediate), 2, .legal⟩
  | .rorAcc => ⟨0x6A#8, .ror, .implied, 2, .legal⟩
  | .arr _ => ⟨0x6B#8, .arr, (.addr .immediate), 2, .illegal⟩
  | .jmpInd _ _ => ⟨0x6C#8, .jmp, (.addr .indirect), 5, .legal⟩
  | .adcAbs _ _ => ⟨0x6D#8, .adc, (.addr .absolute), 4, .legal⟩
  | .rorAbs _ _ => ⟨0x6E#8, .ror, (.addr .absolute), 6, .legal⟩
  | .rraAbs _ _ => ⟨0x6F#8, .rra, (.addr .absolute), 6, .illegal⟩
  | .bvs _ => ⟨0x70#8, .bvs, .relative, 2, .legal⟩
  | .adcIzy _ => ⟨0x71#8, .adc, (.addr .indirectY), 5, .legal⟩
  | .kil72 => ⟨0x72#8, .kil, .implied, 2, .illegal⟩
  | .rraIzy _ => ⟨0x73#8, .rra, (.addr .indirectYConst), 8, .illegal⟩
  | .nop74 _ => ⟨0x74#8, .nop, (.addr .zeroPageX), 4, .illegal⟩
  | .adcZpx _ => ⟨0x75#8, .adc, (.addr .zeroPageX), 4, .legal⟩
  | .rorZpx _ => ⟨0x76#8, .ror, (.addr .zeroPageX), 6, .legal⟩
  | .rraZpx _ => ⟨0x77#8, .rra, (.addr .zeroPageX), 6, .illegal⟩
  | .sei => ⟨0x78#8, .sei, .implied, 2, .legal⟩
  | .adcAby _ _ => ⟨0x79#8, .adc, (.addr .absoluteY), 4, .legal⟩
  | .nop7A => ⟨0x7A#8, .nop, .implied, 2, .illegal⟩
  | .rraAby _ _ => ⟨0x7B#8, .rra, (.addr .absoluteYConst), 7, .illegal⟩
  | .nop7C _ _ => ⟨0x7C#8, .nop, (.addr .absoluteX), 4, .illegal⟩
  | .adcAbx _ _ => ⟨0x7D#8, .adc, (.addr .absoluteX), 4, .legal⟩
  | .rorAbx _ _ => ⟨0x7E#8, .ror, (.addr .absoluteXConst), 7, .legal⟩
  | .rraAbx _ _ => ⟨0x7F#8, .rra, (.addr .absoluteXConst), 7, .illegal⟩
  | .nop80 _ => ⟨0x80#8, .nop, (.addr .immediate), 2, .illegal⟩
  | .staIzx _ => ⟨0x81#8, .sta, (.addr .indirectX), 6, .legal⟩
  | .nop82 _ => ⟨0x82#8, .nop, (.addr .immediate), 2, .illegal⟩
  | .saxIzx _ => ⟨0x83#8, .sax, (.addr .indirectX), 6, .illegal⟩
  | .styZp _ => ⟨0x84#8, .sty, (.addr .zeroPage), 3, .legal⟩
  | .staZp _ => ⟨0x85#8, .sta, (.addr .zeroPage), 3, .legal⟩
  | .stxZp _ => ⟨0x86#8, .stx, (.addr .zeroPage), 3, .legal⟩
  | .saxZp _ => ⟨0x87#8, .sax, (.addr .zeroPage), 3, .illegal⟩
  | .dey => ⟨0x88#8, .dey, .implied, 2, .legal⟩
  | .nop89 _ => ⟨0x89#8, .nop, (.addr .immediate), 2, .illegal⟩
  | .txa => ⟨0x8A#8, .txa, .implied, 2, .legal⟩
  | .xaa _ => ⟨0x8B#8, .xaa, (.addr .immediate), 2, .illegal⟩
  | .styAbs _ _ => ⟨0x8C#8, .sty, (.addr .absolute), 4, .legal⟩
  | .staAbs _ _ => ⟨0x8D#8, .sta, (.addr .absolute), 4, .legal⟩
  | .stxAbs _ _ => ⟨0x8E#8, .stx, (.addr .absolute), 4, .legal⟩
  | .saxAbs _ _ => ⟨0x8F#8, .sax, (.addr .absolute), 4, .illegal⟩
  | .bcc _ => ⟨0x90#8, .bcc, .relative, 2, .legal⟩
  | .staIzy _ => ⟨0x91#8, .sta, (.addr .indirectYConst), 6, .legal⟩
  | .kil92 => ⟨0x92#8, .kil, .implied, 2, .illegal⟩
  | .ahxIzy _ => ⟨0x93#8, .ahx, (.addr .indirectYConst), 6, .illegal⟩
  | .styZpx _ => ⟨0x94#8, .sty, (.addr .zeroPageX), 4, .legal⟩
  | .staZpx _ => ⟨0x95#8, .sta, (.addr .zeroPageX), 4, .legal⟩
  | .stxZpy _ => ⟨0x96#8, .stx, (.addr .zeroPageY), 4, .legal⟩
  | .saxZpy _ => ⟨0x97#8, .sax, (.addr .zeroPageY), 4, .illegal⟩
  | .tya => ⟨0x98#8, .tya, .implied, 2, .legal⟩
  | .staAby _ _ => ⟨0x99#8, .sta, (.addr .absoluteYConst), 5, .legal⟩
  | .txs => ⟨0x9A#8, .txs, .implied, 2, .legal⟩
  | .tas _ _ => ⟨0x9B#8, .tas, (.addr .absoluteYConst), 5, .illegal⟩
  | .shy _ _ => ⟨0x9C#8, .shy, (.addr .absoluteXConst), 5, .illegal⟩
  | .staAbx _ _ => ⟨0x9D#8, .sta, (.addr .absoluteXConst), 5, .legal⟩
  | .shx _ _ => ⟨0x9E#8, .shx, (.addr .absoluteYConst), 5, .illegal⟩
  | .ahxAby _ _ => ⟨0x9F#8, .ahx, (.addr .absoluteYConst), 5, .illegal⟩
  | .ldyImm _ => ⟨0xA0#8, .ldy, (.addr .immediate), 2, .legal⟩
  | .ldaIzx _ => ⟨0xA1#8, .lda, (.addr .indirectX), 6, .legal⟩
  | .ldxImm _ => ⟨0xA2#8, .ldx, (.addr .immediate), 2, .legal⟩
  | .laxIzx _ => ⟨0xA3#8, .lax, (.addr .indirectX), 6, .illegal⟩
  | .ldyZp _ => ⟨0xA4#8, .ldy, (.addr .zeroPage), 3, .legal⟩
  | .ldaZp _ => ⟨0xA5#8, .lda, (.addr .zeroPage), 3, .legal⟩
  | .ldxZp _ => ⟨0xA6#8, .ldx, (.addr .zeroPage), 3, .legal⟩
  | .laxZp _ => ⟨0xA7#8, .lax, (.addr .zeroPage), 3, .illegal⟩
  | .tay => ⟨0xA8#8, .tay, .implied, 2, .legal⟩
  | .ldaImm _ => ⟨0xA9#8, .lda, (.addr .immediate), 2, .legal⟩
  | .tax => ⟨0xAA#8, .tax, .implied, 2, .legal⟩
  | .laxImm _ => ⟨0xAB#8, .lax, (.addr .immediate), 2, .illegal⟩
  | .ldyAbs _ _ => ⟨0xAC#8, .ldy, (.addr .absolute), 4, .legal⟩
  | .ldaAbs _ _ => ⟨0xAD#8, .lda, (.addr .absolute), 4, .legal⟩
  | .ldxAbs _ _ => ⟨0xAE#8, .ldx, (.addr .absolute), 4, .legal⟩
  | .laxAbs _ _ => ⟨0xAF#8, .lax, (.addr .absolute), 4, .illegal⟩
  | .bcs _ => ⟨0xB0#8, .bcs, .relative, 2, .legal⟩
  | .ldaIzy _ => ⟨0xB1#8, .lda, (.addr .indirectY), 5, .legal⟩
  | .kilB2 => ⟨0xB2#8, .kil, .implied, 2, .illegal⟩
  | .laxIzy _ => ⟨0xB3#8, .lax, (.addr .indirectY), 5, .illegal⟩
  | .ldyZpx _ => ⟨0xB4#8, .ldy, (.addr .zeroPageX), 4, .legal⟩
  | .ldaZpx _ => ⟨0xB5#8, .lda, (.addr .zeroPageX), 4, .legal⟩
  | .ldxZpy _ => ⟨0xB6#8, .ldx, (.addr .zeroPageY), 4, .legal⟩
  | .laxZpy _ => ⟨0xB7#8, .lax, (.addr .zeroPageY), 4, .illegal⟩
  | .clv => ⟨0xB8#8, .clv, .implied, 2, .legal⟩
  | .ldaAby _ _ => ⟨0xB9#8, .lda, (.addr .absoluteY), 4, .legal⟩
  | .tsx => ⟨0xBA#8, .tsx, .implied, 2, .legal⟩
  | .las _ _ => ⟨0xBB#8, .las, (.addr .absoluteY), 4, .illegal⟩
  | .ldyAbx _ _ => ⟨0xBC#8, .ldy, (.addr .absoluteX), 4, .legal⟩
  | .ldaAbx _ _ => ⟨0xBD#8, .lda, (.addr .absoluteX), 4, .legal⟩
  | .ldxAby _ _ => ⟨0xBE#8, .ldx, (.addr .absoluteY), 4, .legal⟩
  | .laxAby _ _ => ⟨0xBF#8, .lax, (.addr .absoluteY), 4, .illegal⟩
  | .cpyImm _ => ⟨0xC0#8, .cpy, (.addr .immediate), 2, .legal⟩
  | .cmpIzx _ => ⟨0xC1#8, .cmp, (.addr .indirectX), 6, .legal⟩
  | .nopC2 _ => ⟨0xC2#8, .nop, (.addr .immediate), 2, .illegal⟩
  | .dcpIzx _ => ⟨0xC3#8, .dcp, (.addr .indirectX), 8, .illegal⟩
  | .cpyZp _ => ⟨0xC4#8, .cpy, (.addr .zeroPage), 3, .legal⟩
  | .cmpZp _ => ⟨0xC5#8, .cmp, (.addr .zeroPage), 3, .legal⟩
  | .decZp _ => ⟨0xC6#8, .dec, (.addr .zeroPage), 5, .legal⟩
  | .dcpZp _ => ⟨0xC7#8, .dcp, (.addr .zeroPage), 5, .illegal⟩
  | .iny => ⟨0xC8#8, .iny, .implied, 2, .legal⟩
  | .cmpImm _ => ⟨0xC9#8, .cmp, (.addr .immediate), 2, .legal⟩
  | .dex => ⟨0xCA#8, .dex, .implied, 2, .legal⟩
  | .axs _ => ⟨0xCB#8, .axs, (.addr .immediate), 2, .illegal⟩
  | .cpyAbs _ _ => ⟨0xCC#8, .cpy, (.addr .absolute), 4, .legal⟩
  | .cmpAbs _ _ => ⟨0xCD#8, .cmp, (.addr .absolute), 4, .legal⟩
  | .decAbs _ _ => ⟨0xCE#8, .dec, (.addr .absolute), 6, .legal⟩
  | .dcpAbs _ _ => ⟨0xCF#8, .dcp, (.addr .absolute), 6, .illegal⟩
  | .bne _ => ⟨0xD0#8, .bne, .relative, 2, .legal⟩
  | .cmpIzy _ => ⟨0xD1#8, .cmp, (.addr .indirectY), 5, .legal⟩
  | .kilD2 => ⟨0xD2#8, .kil, .implied, 2, .illegal⟩
  | .dcpIzy _ => ⟨0xD3#8, .dcp, (.addr .indirectYConst), 8, .illegal⟩
  | .nopD4 _ => ⟨0xD4#8, .nop, (.addr .zeroPageX), 4, .illegal⟩
  | .cmpZpx _ => ⟨0xD5#8, .cmp, (.addr .zeroPageX), 4, .legal⟩
  | .decZpx _ => ⟨0xD6#8, .dec, (.addr .zeroPageX), 6, .legal⟩
  | .dcpZpx _ => ⟨0xD7#8, .dcp, (.addr .zeroPageX), 6, .illegal⟩
  | .cld => ⟨0xD8#8, .cld, .implied, 2, .legal⟩
  | .cmpAby _ _ => ⟨0xD9#8, .cmp, (.addr .absoluteY), 4, .legal⟩
  | .nopDA => ⟨0xDA#8, .nop, .implied, 2, .illegal⟩
  | .dcpAby _ _ => ⟨0xDB#8, .dcp, (.addr .absoluteYConst), 7, .illegal⟩
  | .nopDC _ _ => ⟨0xDC#8, .nop, (.addr .absoluteX), 4, .illegal⟩
  | .cmpAbx _ _ => ⟨0xDD#8, .cmp, (.addr .absoluteX), 4, .legal⟩
  | .decAbx _ _ => ⟨0xDE#8, .dec, (.addr .absoluteXConst), 7, .legal⟩
  | .dcpAbx _ _ => ⟨0xDF#8, .dcp, (.addr .absoluteXConst), 7, .illegal⟩
  | .cpxImm _ => ⟨0xE0#8, .cpx, (.addr .immediate), 2, .legal⟩
  | .sbcIzx _ => ⟨0xE1#8, .sbc, (.addr .indirectX), 6, .legal⟩
  | .nopE2 _ => ⟨0xE2#8, .nop, (.addr .immediate), 2, .illegal⟩
  | .iscIzx _ => ⟨0xE3#8, .isc, (.addr .indirectX), 8, .illegal⟩
  | .cpxZp _ => ⟨0xE4#8, .cpx, (.addr .zeroPage), 3, .legal⟩
  | .sbcZp _ => ⟨0xE5#8, .sbc, (.addr .zeroPage), 3, .legal⟩
  | .incZp _ => ⟨0xE6#8, .inc, (.addr .zeroPage), 5, .legal⟩
  | .iscZp _ => ⟨0xE7#8, .isc, (.addr .zeroPage), 5, .illegal⟩
  | .inx => ⟨0xE8#8, .inx, .implied, 2, .legal⟩
  | .sbcImm _ => ⟨0xE9#8, .sbc, (.addr .immediate), 2, .legal⟩
  | .nop => ⟨0xEA#8, .nop, .implied, 2, .legal⟩
  | .sbcEB _ => ⟨0xEB#8, .sbc, (.addr .immediate), 2, .illegal⟩
  | .cpxAbs _ _ => ⟨0xEC#8, .cpx, (.addr .absolute), 4, .legal⟩
  | .sbcAbs _ _ => ⟨0xED#8, .sbc, (.addr .absolute), 4, .legal⟩
  | .incAbs _ _ => ⟨0xEE#8, .inc, (.addr .absolute), 6, .legal⟩
  | .iscAbs _ _ => ⟨0xEF#8, .isc, (.addr .absolute), 6, .illegal⟩
  | .beq _ => ⟨0xF0#8, .beq, .relative, 2, .legal⟩
  | .sbcIzy _ => ⟨0xF1#8, .sbc, (.addr .indirectY), 5, .legal⟩
  | .kilF2 => ⟨0xF2#8, .kil, .implied, 2, .illegal⟩
  | .iscIzy _ => ⟨0xF3#8, .isc, (.addr .indirectYConst), 8, .illegal⟩
  | .nopF4 _ => ⟨0xF4#8, .nop, (.addr .zeroPageX), 4, .illegal⟩
  | .sbcZpx _ => ⟨0xF5#8, .sbc, (.addr .zeroPageX), 4, .legal⟩
  | .incZpx _ => ⟨0xF6#8, .inc, (.addr .zeroPageX), 6, .legal⟩
  | .iscZpx _ => ⟨0xF7#8, .isc, (.addr .zeroPageX), 6, .illegal⟩
  | .sed => ⟨0xF8#8, .sed, .implied, 2, .legal⟩
  | .sbcAby _ _ => ⟨0xF9#8, .sbc, (.addr .absoluteY), 4, .legal⟩
  | .nopFA => ⟨0xFA#8, .nop, .implied, 2, .illegal⟩
  | .iscAby _ _ => ⟨0xFB#8, .isc, (.addr .absoluteYConst), 7, .illegal⟩
  | .nopFC _ _ => ⟨0xFC#8, .nop, (.addr .absoluteX), 4, .illegal⟩
  | .sbcAbx _ _ => ⟨0xFD#8, .sbc, (.addr .absoluteX), 4, .legal⟩
  | .incAbx _ _ => ⟨0xFE#8, .inc, (.addr .absoluteXConst), 7, .legal⟩
  | .iscAbx _ _ => ⟨0xFF#8, .isc, (.addr .absoluteXConst), 7, .illegal⟩

/-- The operand bytes of an instruction, in ascending address order (R81). -/
def Instr.operands : Instr → List Byte
  | .oraIzx n => [n]
  | .sloIzx n => [n]
  | .nop04 n => [n]
  | .oraZp n => [n]
  | .aslZp n => [n]
  | .sloZp n => [n]
  | .oraImm n => [n]
  | .anc0B n => [n]
  | .nop0C l h => [l, h]
  | .oraAbs l h => [l, h]
  | .aslAbs l h => [l, h]
  | .sloAbs l h => [l, h]
  | .bpl n => [n]
  | .oraIzy n => [n]
  | .sloIzy n => [n]
  | .nop14 n => [n]
  | .oraZpx n => [n]
  | .aslZpx n => [n]
  | .sloZpx n => [n]
  | .oraAby l h => [l, h]
  | .sloAby l h => [l, h]
  | .nop1C l h => [l, h]
  | .oraAbx l h => [l, h]
  | .aslAbx l h => [l, h]
  | .sloAbx l h => [l, h]
  | .jsr l h => [l, h]
  | .andIzx n => [n]
  | .rlaIzx n => [n]
  | .bitZp n => [n]
  | .andZp n => [n]
  | .rolZp n => [n]
  | .rlaZp n => [n]
  | .andImm n => [n]
  | .anc2B n => [n]
  | .bitAbs l h => [l, h]
  | .andAbs l h => [l, h]
  | .rolAbs l h => [l, h]
  | .rlaAbs l h => [l, h]
  | .bmi n => [n]
  | .andIzy n => [n]
  | .rlaIzy n => [n]
  | .nop34 n => [n]
  | .andZpx n => [n]
  | .rolZpx n => [n]
  | .rlaZpx n => [n]
  | .andAby l h => [l, h]
  | .rlaAby l h => [l, h]
  | .nop3C l h => [l, h]
  | .andAbx l h => [l, h]
  | .rolAbx l h => [l, h]
  | .rlaAbx l h => [l, h]
  | .eorIzx n => [n]
  | .sreIzx n => [n]
  | .nop44 n => [n]
  | .eorZp n => [n]
  | .lsrZp n => [n]
  | .sreZp n => [n]
  | .eorImm n => [n]
  | .alr n => [n]
  | .jmpAbs l h => [l, h]
  | .eorAbs l h => [l, h]
  | .lsrAbs l h => [l, h]
  | .sreAbs l h => [l, h]
  | .bvc n => [n]
  | .eorIzy n => [n]
  | .sreIzy n => [n]
  | .nop54 n => [n]
  | .eorZpx n => [n]
  | .lsrZpx n => [n]
  | .sreZpx n => [n]
  | .eorAby l h => [l, h]
  | .sreAby l h => [l, h]
  | .nop5C l h => [l, h]
  | .eorAbx l h => [l, h]
  | .lsrAbx l h => [l, h]
  | .sreAbx l h => [l, h]
  | .adcIzx n => [n]
  | .rraIzx n => [n]
  | .nop64 n => [n]
  | .adcZp n => [n]
  | .rorZp n => [n]
  | .rraZp n => [n]
  | .adcImm n => [n]
  | .arr n => [n]
  | .jmpInd l h => [l, h]
  | .adcAbs l h => [l, h]
  | .rorAbs l h => [l, h]
  | .rraAbs l h => [l, h]
  | .bvs n => [n]
  | .adcIzy n => [n]
  | .rraIzy n => [n]
  | .nop74 n => [n]
  | .adcZpx n => [n]
  | .rorZpx n => [n]
  | .rraZpx n => [n]
  | .adcAby l h => [l, h]
  | .rraAby l h => [l, h]
  | .nop7C l h => [l, h]
  | .adcAbx l h => [l, h]
  | .rorAbx l h => [l, h]
  | .rraAbx l h => [l, h]
  | .nop80 n => [n]
  | .staIzx n => [n]
  | .nop82 n => [n]
  | .saxIzx n => [n]
  | .styZp n => [n]
  | .staZp n => [n]
  | .stxZp n => [n]
  | .saxZp n => [n]
  | .nop89 n => [n]
  | .xaa n => [n]
  | .styAbs l h => [l, h]
  | .staAbs l h => [l, h]
  | .stxAbs l h => [l, h]
  | .saxAbs l h => [l, h]
  | .bcc n => [n]
  | .staIzy n => [n]
  | .ahxIzy n => [n]
  | .styZpx n => [n]
  | .staZpx n => [n]
  | .stxZpy n => [n]
  | .saxZpy n => [n]
  | .staAby l h => [l, h]
  | .tas l h => [l, h]
  | .shy l h => [l, h]
  | .staAbx l h => [l, h]
  | .shx l h => [l, h]
  | .ahxAby l h => [l, h]
  | .ldyImm n => [n]
  | .ldaIzx n => [n]
  | .ldxImm n => [n]
  | .laxIzx n => [n]
  | .ldyZp n => [n]
  | .ldaZp n => [n]
  | .ldxZp n => [n]
  | .laxZp n => [n]
  | .ldaImm n => [n]
  | .laxImm n => [n]
  | .ldyAbs l h => [l, h]
  | .ldaAbs l h => [l, h]
  | .ldxAbs l h => [l, h]
  | .laxAbs l h => [l, h]
  | .bcs n => [n]
  | .ldaIzy n => [n]
  | .laxIzy n => [n]
  | .ldyZpx n => [n]
  | .ldaZpx n => [n]
  | .ldxZpy n => [n]
  | .laxZpy n => [n]
  | .ldaAby l h => [l, h]
  | .las l h => [l, h]
  | .ldyAbx l h => [l, h]
  | .ldaAbx l h => [l, h]
  | .ldxAby l h => [l, h]
  | .laxAby l h => [l, h]
  | .cpyImm n => [n]
  | .cmpIzx n => [n]
  | .nopC2 n => [n]
  | .dcpIzx n => [n]
  | .cpyZp n => [n]
  | .cmpZp n => [n]
  | .decZp n => [n]
  | .dcpZp n => [n]
  | .cmpImm n => [n]
  | .axs n => [n]
  | .cpyAbs l h => [l, h]
  | .cmpAbs l h => [l, h]
  | .decAbs l h => [l, h]
  | .dcpAbs l h => [l, h]
  | .bne n => [n]
  | .cmpIzy n => [n]
  | .dcpIzy n => [n]
  | .nopD4 n => [n]
  | .cmpZpx n => [n]
  | .decZpx n => [n]
  | .dcpZpx n => [n]
  | .cmpAby l h => [l, h]
  | .dcpAby l h => [l, h]
  | .nopDC l h => [l, h]
  | .cmpAbx l h => [l, h]
  | .decAbx l h => [l, h]
  | .dcpAbx l h => [l, h]
  | .cpxImm n => [n]
  | .sbcIzx n => [n]
  | .nopE2 n => [n]
  | .iscIzx n => [n]
  | .cpxZp n => [n]
  | .sbcZp n => [n]
  | .incZp n => [n]
  | .iscZp n => [n]
  | .sbcImm n => [n]
  | .sbcEB n => [n]
  | .cpxAbs l h => [l, h]
  | .sbcAbs l h => [l, h]
  | .incAbs l h => [l, h]
  | .iscAbs l h => [l, h]
  | .beq n => [n]
  | .sbcIzy n => [n]
  | .iscIzy n => [n]
  | .nopF4 n => [n]
  | .sbcZpx n => [n]
  | .incZpx n => [n]
  | .iscZpx n => [n]
  | .sbcAby l h => [l, h]
  | .iscAby l h => [l, h]
  | .nopFC l h => [l, h]
  | .sbcAbx l h => [l, h]
  | .incAbx l h => [l, h]
  | .iscAbx l h => [l, h]
  | .brk => []
  | .kil02 => []
  | .php => []
  | .aslAcc => []
  | .kil12 => []
  | .clc => []
  | .nop1A => []
  | .kil22 => []
  | .plp => []
  | .rolAcc => []
  | .kil32 => []
  | .sec => []
  | .nop3A => []
  | .rti => []
  | .kil42 => []
  | .pha => []
  | .lsrAcc => []
  | .kil52 => []
  | .cli => []
  | .nop5A => []
  | .rts => []
  | .kil62 => []
  | .pla => []
  | .rorAcc => []
  | .kil72 => []
  | .sei => []
  | .nop7A => []
  | .dey => []
  | .txa => []
  | .kil92 => []
  | .tya => []
  | .txs => []
  | .tay => []
  | .tax => []
  | .kilB2 => []
  | .clv => []
  | .tsx => []
  | .iny => []
  | .dex => []
  | .kilD2 => []
  | .cld => []
  | .nopDA => []
  | .inx => []
  | .nop => []
  | .kilF2 => []
  | .sed => []
  | .nopFA => []

/-- The first operand byte, 0 where there is none. -/
def Instr.byte1 (i : Instr) : Byte := i.operands.getD 0 0x00#8

/-- The second operand byte, 0 where there is none. -/
def Instr.byte2 (i : Instr) : Byte := i.operands.getD 1 0x00#8

/-- Length in bytes: "one opcode byte followed by 0, 1 or 2 operand bytes" (R80). -/
def Instr.size (i : Instr) : Nat := 1 + i.row.mode.operandBytes

/-- An instruction is well-formed when its table row is (R96). -/
def Instr.wellFormed (i : Instr) : Bool := i.row.wellFormed

/-- Row 0x of the opcode matrix (R84); `b1`, `b2` are the two bytes after the opcode. -/
def matrixRow0 (lo : Nat) (b1 b2 : Byte) : Instr :=
  match lo with
  | 0x0 => .brk
  | 0x1 => .oraIzx b1
  | 0x2 => .kil02
  | 0x3 => .sloIzx b1
  | 0x4 => .nop04 b1
  | 0x5 => .oraZp b1
  | 0x6 => .aslZp b1
  | 0x7 => .sloZp b1
  | 0x8 => .php
  | 0x9 => .oraImm b1
  | 0xA => .aslAcc
  | 0xB => .anc0B b1
  | 0xC => .nop0C b1 b2
  | 0xD => .oraAbs b1 b2
  | 0xE => .aslAbs b1 b2
  | _ => .sloAbs b1 b2

/-- Row 1x of the opcode matrix (R84); `b1`, `b2` are the two bytes after the opcode. -/
def matrixRow1 (lo : Nat) (b1 b2 : Byte) : Instr :=
  match lo with
  | 0x0 => .bpl b1
  | 0x1 => .oraIzy b1
  | 0x2 => .kil12
  | 0x3 => .sloIzy b1
  | 0x4 => .nop14 b1
  | 0x5 => .oraZpx b1
  | 0x6 => .aslZpx b1
  | 0x7 => .sloZpx b1
  | 0x8 => .clc
  | 0x9 => .oraAby b1 b2
  | 0xA => .nop1A
  | 0xB => .sloAby b1 b2
  | 0xC => .nop1C b1 b2
  | 0xD => .oraAbx b1 b2
  | 0xE => .aslAbx b1 b2
  | _ => .sloAbx b1 b2

/-- Row 2x of the opcode matrix (R84); `b1`, `b2` are the two bytes after the opcode. -/
def matrixRow2 (lo : Nat) (b1 b2 : Byte) : Instr :=
  match lo with
  | 0x0 => .jsr b1 b2
  | 0x1 => .andIzx b1
  | 0x2 => .kil22
  | 0x3 => .rlaIzx b1
  | 0x4 => .bitZp b1
  | 0x5 => .andZp b1
  | 0x6 => .rolZp b1
  | 0x7 => .rlaZp b1
  | 0x8 => .plp
  | 0x9 => .andImm b1
  | 0xA => .rolAcc
  | 0xB => .anc2B b1
  | 0xC => .bitAbs b1 b2
  | 0xD => .andAbs b1 b2
  | 0xE => .rolAbs b1 b2
  | _ => .rlaAbs b1 b2

/-- Row 3x of the opcode matrix (R84); `b1`, `b2` are the two bytes after the opcode. -/
def matrixRow3 (lo : Nat) (b1 b2 : Byte) : Instr :=
  match lo with
  | 0x0 => .bmi b1
  | 0x1 => .andIzy b1
  | 0x2 => .kil32
  | 0x3 => .rlaIzy b1
  | 0x4 => .nop34 b1
  | 0x5 => .andZpx b1
  | 0x6 => .rolZpx b1
  | 0x7 => .rlaZpx b1
  | 0x8 => .sec
  | 0x9 => .andAby b1 b2
  | 0xA => .nop3A
  | 0xB => .rlaAby b1 b2
  | 0xC => .nop3C b1 b2
  | 0xD => .andAbx b1 b2
  | 0xE => .rolAbx b1 b2
  | _ => .rlaAbx b1 b2

/-- Row 4x of the opcode matrix (R84); `b1`, `b2` are the two bytes after the opcode. -/
def matrixRow4 (lo : Nat) (b1 b2 : Byte) : Instr :=
  match lo with
  | 0x0 => .rti
  | 0x1 => .eorIzx b1
  | 0x2 => .kil42
  | 0x3 => .sreIzx b1
  | 0x4 => .nop44 b1
  | 0x5 => .eorZp b1
  | 0x6 => .lsrZp b1
  | 0x7 => .sreZp b1
  | 0x8 => .pha
  | 0x9 => .eorImm b1
  | 0xA => .lsrAcc
  | 0xB => .alr b1
  | 0xC => .jmpAbs b1 b2
  | 0xD => .eorAbs b1 b2
  | 0xE => .lsrAbs b1 b2
  | _ => .sreAbs b1 b2

/-- Row 5x of the opcode matrix (R84); `b1`, `b2` are the two bytes after the opcode. -/
def matrixRow5 (lo : Nat) (b1 b2 : Byte) : Instr :=
  match lo with
  | 0x0 => .bvc b1
  | 0x1 => .eorIzy b1
  | 0x2 => .kil52
  | 0x3 => .sreIzy b1
  | 0x4 => .nop54 b1
  | 0x5 => .eorZpx b1
  | 0x6 => .lsrZpx b1
  | 0x7 => .sreZpx b1
  | 0x8 => .cli
  | 0x9 => .eorAby b1 b2
  | 0xA => .nop5A
  | 0xB => .sreAby b1 b2
  | 0xC => .nop5C b1 b2
  | 0xD => .eorAbx b1 b2
  | 0xE => .lsrAbx b1 b2
  | _ => .sreAbx b1 b2

/-- Row 6x of the opcode matrix (R84); `b1`, `b2` are the two bytes after the opcode. -/
def matrixRow6 (lo : Nat) (b1 b2 : Byte) : Instr :=
  match lo with
  | 0x0 => .rts
  | 0x1 => .adcIzx b1
  | 0x2 => .kil62
  | 0x3 => .rraIzx b1
  | 0x4 => .nop64 b1
  | 0x5 => .adcZp b1
  | 0x6 => .rorZp b1
  | 0x7 => .rraZp b1
  | 0x8 => .pla
  | 0x9 => .adcImm b1
  | 0xA => .rorAcc
  | 0xB => .arr b1
  | 0xC => .jmpInd b1 b2
  | 0xD => .adcAbs b1 b2
  | 0xE => .rorAbs b1 b2
  | _ => .rraAbs b1 b2

/-- Row 7x of the opcode matrix (R84); `b1`, `b2` are the two bytes after the opcode. -/
def matrixRow7 (lo : Nat) (b1 b2 : Byte) : Instr :=
  match lo with
  | 0x0 => .bvs b1
  | 0x1 => .adcIzy b1
  | 0x2 => .kil72
  | 0x3 => .rraIzy b1
  | 0x4 => .nop74 b1
  | 0x5 => .adcZpx b1
  | 0x6 => .rorZpx b1
  | 0x7 => .rraZpx b1
  | 0x8 => .sei
  | 0x9 => .adcAby b1 b2
  | 0xA => .nop7A
  | 0xB => .rraAby b1 b2
  | 0xC => .nop7C b1 b2
  | 0xD => .adcAbx b1 b2
  | 0xE => .rorAbx b1 b2
  | _ => .rraAbx b1 b2

/-- Row 8x of the opcode matrix (R84); `b1`, `b2` are the two bytes after the opcode. -/
def matrixRow8 (lo : Nat) (b1 b2 : Byte) : Instr :=
  match lo with
  | 0x0 => .nop80 b1
  | 0x1 => .staIzx b1
  | 0x2 => .nop82 b1
  | 0x3 => .saxIzx b1
  | 0x4 => .styZp b1
  | 0x5 => .staZp b1
  | 0x6 => .stxZp b1
  | 0x7 => .saxZp b1
  | 0x8 => .dey
  | 0x9 => .nop89 b1
  | 0xA => .txa
  | 0xB => .xaa b1
  | 0xC => .styAbs b1 b2
  | 0xD => .staAbs b1 b2
  | 0xE => .stxAbs b1 b2
  | _ => .saxAbs b1 b2

/-- Row 9x of the opcode matrix (R84); `b1`, `b2` are the two bytes after the opcode. -/
def matrixRow9 (lo : Nat) (b1 b2 : Byte) : Instr :=
  match lo with
  | 0x0 => .bcc b1
  | 0x1 => .staIzy b1
  | 0x2 => .kil92
  | 0x3 => .ahxIzy b1
  | 0x4 => .styZpx b1
  | 0x5 => .staZpx b1
  | 0x6 => .stxZpy b1
  | 0x7 => .saxZpy b1
  | 0x8 => .tya
  | 0x9 => .staAby b1 b2
  | 0xA => .txs
  | 0xB => .tas b1 b2
  | 0xC => .shy b1 b2
  | 0xD => .staAbx b1 b2
  | 0xE => .shx b1 b2
  | _ => .ahxAby b1 b2

/-- Row Ax of the opcode matrix (R84); `b1`, `b2` are the two bytes after the opcode. -/
def matrixRowA (lo : Nat) (b1 b2 : Byte) : Instr :=
  match lo with
  | 0x0 => .ldyImm b1
  | 0x1 => .ldaIzx b1
  | 0x2 => .ldxImm b1
  | 0x3 => .laxIzx b1
  | 0x4 => .ldyZp b1
  | 0x5 => .ldaZp b1
  | 0x6 => .ldxZp b1
  | 0x7 => .laxZp b1
  | 0x8 => .tay
  | 0x9 => .ldaImm b1
  | 0xA => .tax
  | 0xB => .laxImm b1
  | 0xC => .ldyAbs b1 b2
  | 0xD => .ldaAbs b1 b2
  | 0xE => .ldxAbs b1 b2
  | _ => .laxAbs b1 b2

/-- Row Bx of the opcode matrix (R84); `b1`, `b2` are the two bytes after the opcode. -/
def matrixRowB (lo : Nat) (b1 b2 : Byte) : Instr :=
  match lo with
  | 0x0 => .bcs b1
  | 0x1 => .ldaIzy b1
  | 0x2 => .kilB2
  | 0x3 => .laxIzy b1
  | 0x4 => .ldyZpx b1
  | 0x5 => .ldaZpx b1
  | 0x6 => .ldxZpy b1
  | 0x7 => .laxZpy b1
  | 0x8 => .clv
  | 0x9 => .ldaAby b1 b2
  | 0xA => .tsx
  | 0xB => .las b1 b2
  | 0xC => .ldyAbx b1 b2
  | 0xD => .ldaAbx b1 b2
  | 0xE => .ldxAby b1 b2
  | _ => .laxAby b1 b2

/-- Row Cx of the opcode matrix (R84); `b1`, `b2` are the two bytes after the opcode. -/
def matrixRowC (lo : Nat) (b1 b2 : Byte) : Instr :=
  match lo with
  | 0x0 => .cpyImm b1
  | 0x1 => .cmpIzx b1
  | 0x2 => .nopC2 b1
  | 0x3 => .dcpIzx b1
  | 0x4 => .cpyZp b1
  | 0x5 => .cmpZp b1
  | 0x6 => .decZp b1
  | 0x7 => .dcpZp b1
  | 0x8 => .iny
  | 0x9 => .cmpImm b1
  | 0xA => .dex
  | 0xB => .axs b1
  | 0xC => .cpyAbs b1 b2
  | 0xD => .cmpAbs b1 b2
  | 0xE => .decAbs b1 b2
  | _ => .dcpAbs b1 b2

/-- Row Dx of the opcode matrix (R84); `b1`, `b2` are the two bytes after the opcode. -/
def matrixRowD (lo : Nat) (b1 b2 : Byte) : Instr :=
  match lo with
  | 0x0 => .bne b1
  | 0x1 => .cmpIzy b1
  | 0x2 => .kilD2
  | 0x3 => .dcpIzy b1
  | 0x4 => .nopD4 b1
  | 0x5 => .cmpZpx b1
  | 0x6 => .decZpx b1
  | 0x7 => .dcpZpx b1
  | 0x8 => .cld
  | 0x9 => .cmpAby b1 b2
  | 0xA => .nopDA
  | 0xB => .dcpAby b1 b2
  | 0xC => .nopDC b1 b2
  | 0xD => .cmpAbx b1 b2
  | 0xE => .decAbx b1 b2
  | _ => .dcpAbx b1 b2

/-- Row Ex of the opcode matrix (R84); `b1`, `b2` are the two bytes after the opcode. -/
def matrixRowE (lo : Nat) (b1 b2 : Byte) : Instr :=
  match lo with
  | 0x0 => .cpxImm b1
  | 0x1 => .sbcIzx b1
  | 0x2 => .nopE2 b1
  | 0x3 => .iscIzx b1
  | 0x4 => .cpxZp b1
  | 0x5 => .sbcZp b1
  | 0x6 => .incZp b1
  | 0x7 => .iscZp b1
  | 0x8 => .inx
  | 0x9 => .sbcImm b1
  | 0xA => .nop
  | 0xB => .sbcEB b1
  | 0xC => .cpxAbs b1 b2
  | 0xD => .sbcAbs b1 b2
  | 0xE => .incAbs b1 b2
  | _ => .iscAbs b1 b2

/-- Row Fx of the opcode matrix (R84); `b1`, `b2` are the two bytes after the opcode. -/
def matrixRowF (lo : Nat) (b1 b2 : Byte) : Instr :=
  match lo with
  | 0x0 => .beq b1
  | 0x1 => .sbcIzy b1
  | 0x2 => .kilF2
  | 0x3 => .iscIzy b1
  | 0x4 => .nopF4 b1
  | 0x5 => .sbcZpx b1
  | 0x6 => .incZpx b1
  | 0x7 => .iscZpx b1
  | 0x8 => .sed
  | 0x9 => .sbcAby b1 b2
  | 0xA => .nopFA
  | 0xB => .iscAby b1 b2
  | 0xC => .nopFC b1 b2
  | 0xD => .sbcAbx b1 b2
  | 0xE => .incAbx b1 b2
  | _ => .iscAbx b1 b2

/-- The instruction at an opcode byte and the two bytes after it (R273): total, "decode cannot fail". -/
def decodeOpcode (op b1 b2 : Byte) : Instr :=
  match op.toNat / 16 with
  | 0x0 => matrixRow0 (op.toNat % 16) b1 b2
  | 0x1 => matrixRow1 (op.toNat % 16) b1 b2
  | 0x2 => matrixRow2 (op.toNat % 16) b1 b2
  | 0x3 => matrixRow3 (op.toNat % 16) b1 b2
  | 0x4 => matrixRow4 (op.toNat % 16) b1 b2
  | 0x5 => matrixRow5 (op.toNat % 16) b1 b2
  | 0x6 => matrixRow6 (op.toNat % 16) b1 b2
  | 0x7 => matrixRow7 (op.toNat % 16) b1 b2
  | 0x8 => matrixRow8 (op.toNat % 16) b1 b2
  | 0x9 => matrixRow9 (op.toNat % 16) b1 b2
  | 0xA => matrixRowA (op.toNat % 16) b1 b2
  | 0xB => matrixRowB (op.toNat % 16) b1 b2
  | 0xC => matrixRowC (op.toNat % 16) b1 b2
  | 0xD => matrixRowD (op.toNat % 16) b1 b2
  | 0xE => matrixRowE (op.toNat % 16) b1 b2
  | _ => matrixRowF (op.toNat % 16) b1 b2

/-- Why a byte string is no instruction. No opcode byte is rejected (R91): only a string that ends too early. -/
inductive DecodeError where
  | noBytes
  | truncated (op : Byte)
deriving DecidableEq, Repr

/-- Decode the instruction at the head of a byte string, with the bytes after it. -/
def decode : List Byte → Except DecodeError (Instr × List Byte)
  | [] => .error .noBytes
  | op :: rest =>
    let i := decodeOpcode op (rest.getD 0 0x00#8) (rest.getD 1 0x00#8)
    if i.row.mode.operandBytes ≤ rest.length then .ok (i, rest.drop i.row.mode.operandBytes)
    else .error (.truncated op)

/-- The bytes of an instruction: opcode, then operands (R80, R81). -/
def encode (i : Instr) : List Byte := i.row.opcode :: i.operands

/-- The three bytes of a table word, bit 0 being the least significant bit of the opcode byte; bits at and above
`nbits` are 0. -/
def tableWordBytes (nbits w : Nat) : List Byte :=
  let v := w % 2 ^ nbits
  [BitVec.ofNat 8 v, BitVec.ofNat 8 (v / 256), BitVec.ofNat 8 (v / 65536)]

/-- The instruction this decoder reads from a word of the opcode table. -/
def decodeTableWord (nbits w : Nat) : Option Instr :=
  match decode (tableWordBytes nbits w) with
  | .ok (i, _) => some i
  | .error _ => none

end Sys2Proof
end

