-- ==== Sys2Proof/Config.lean ====
section
/-! DEFINITION. The constant inputs of an instance: the two build options and the two OPEN parameters
(00_scope.md R6, R7; 10_state.md R36; 50_execution_engine.md R270 "constant strap inputs"). -/

namespace Sys2Proof

/-- `BOOT_STATUS`, "0x24/0x34 depending on variant" (R321): an OPEN parameter with exactly these two values. -/
inductive BootStatus where
  | v24
  | v34
deriving DecidableEq, Repr

/-- The status byte loaded by power-on and reset (R321). -/
def BootStatus.toByte : BootStatus → Byte
  | .v24 => 0x24#8
  | .v34 => 0x34#8

/-- `INT_PUSH_BREAK_MASK` (R296): an OPEN parameter with exactly these two values. -/
inductive IntPushBreakMask where
  | both
  | unusedOnly
deriving DecidableEq, Repr

/-- The bits forced on in the status byte pushed by IRQ and NMI (R296). -/
def IntPushBreakMask.toByte : IntPushBreakMask → Byte
  | .both => 0x30#8
  | .unusedOnly => 0x20#8

/-- The straps of one instance. "Both are fixed for the life of an instance; no instruction reads or writes
them" (R6); the model keeps them in State, where nothing writes them (log 4). -/
structure Config where
  decimalModeEnabled : Bool
  illegalOpcodesEnabled : Bool
  bootStatus : BootStatus
  intPushBreakMask : IntPushBreakMask
deriving DecidableEq, Repr

/-- The straps `State.reset` is given. `illegalOpcodesEnabled` has the default R6 quotes and
`intPushBreakMask` the reference value of R7. The other two are DESIGN CHOICES (log 4, unsafe only for
statements about `State.reset` itself). -/
def Config.atReset : Config where
  decimalModeEnabled := false
  illegalOpcodesEnabled := false
  bootStatus := .v24
  intPushBreakMask := .both

end Sys2Proof
end

