-- ==== Sys2Proof/Machine/Bits.lean ====
section
/-! DEFINITION. Byte-order and extension helpers (00_scope.md R8, R10). -/

namespace Sys2Proof.Machine

/-- The value `hi, lo` concatenated, `hi` in the high bits (R8). -/
def word (hi lo : Byte) : Addr := hi ++ lo

/-- `w[15:8]`, also `page(w)` (R10). -/
def highByte (w : Addr) : Byte := w.extractLsb' 8 8

/-- `w[7:0]`. -/
def lowByte (w : Addr) : Byte := w.extractLsb' 0 8

/-- `zext_16(b)` (R10). -/
def zext16 (b : Byte) : Addr := b.setWidth 16

/-- `sext_16(b)` (R10), used by the branch helper only (R150). -/
def sext16 (b : Byte) : Addr := b.signExtend 16

end Sys2Proof.Machine
end

