-- ==== Sys2Proof/Machine/Flags.lean ====
section
/-! DEFINITION. The status flags and every computation that writes them: the flag helpers (10_state.md R27 to
R31), the adder (41_arithmetic.md R120, R121), the shifter (43_shift_rotate.md R141 to R144) and the compare
helper (45_compare.md R165), each as a function of bytes. -/

namespace Sys2Proof.Machine

/-- The seven flags of R27. -/
inductive Flag where
  | carry
  | zero
  | interruptDisable
  | decimal
  | brk
  | overflow
  | negative
deriving DecidableEq, Repr

/-- `mask_f` of R27 and R29. Break is the two-bit field, mask 0x30 (R28). -/
def flagMask : Flag → Byte
  | .carry => 0x01#8
  | .zero => 0x02#8
  | .interruptDisable => 0x04#8
  | .decimal => 0x08#8
  | .brk => 0x30#8
  | .overflow => 0x40#8
  | .negative => 0x80#8

/-- `get(f)` of R29. -/
def getFlag (f : Flag) (p : Byte) : Bool := decide (p &&& flagMask f ≠ 0x00#8)

/-- `set(f, b)` of R29. -/
def setFlag (f : Flag) (b : Bool) (p : Byte) : Byte :=
  if b then p ||| flagMask f else p &&& ~~~ flagMask f

/-- `SetZN(v)` of R31. -/
def setZN (v : Byte) (p : Byte) : Byte :=
  setFlag .negative v.msb (setFlag .zero (decide (v = 0x00#8)) p)

/-- A byte result with the status register after it. -/
structure Alu where
  value : Byte
  status : Byte
deriving DecidableEq, Repr

/-- `c` as a 16-bit addend. -/
def carryIn (c : Bool) : Addr := if c then 1#16 else 0#16

/-- The sign-bit rule of R120, `m` being the byte fed to the adder. -/
def overflowRule (a m r : Byte) : Bool := decide ((~~~ (a ^^^ m)) &&& (a ^^^ r) &&& 0x80#8 ≠ 0x00#8)

/-- The four flags from a 16-bit sum, as R120 and R121 both take them. -/
def sumResult (a m : Byte) (sum : BitVec 16) (p : Byte) : Alu :=
  let r := lowByte sum
  { value := r
    status := setZN r (setFlag .overflow (overflowRule a m r) (setFlag .carry (decide (0x00FF#16 < sum)) p)) }

/-- `AddCore(a, m, c)` of R120. -/
def addCore (a m : Byte) (c : Bool) (p : Byte) : Alu :=
  sumResult a m (zext16 a + zext16 m + carryIn c) p

/-- `nib` of R121: the low nibbles and the carry, an unbounded integer. -/
def nibbleSum (a m : Byte) (c : Bool) : Nat :=
  (a &&& 0x0F#8).toNat + (m &&& 0x0F#8).toNat + c.toNat

/-- The corrected sum of R121 when not `sub`. -/
def decimalAddSum (a m : Byte) (c : Bool) : BitVec 16 :=
  let s0 := zext16 a + zext16 m + carryIn c
  let s1 := if 9 < nibbleSum a m c then s0 + 0x06#16 else s0
  if 0x9F#16 < s1 then s1 + 0x60#16 else s1

/-- The corrected sum of R121 when `sub` (`m` already inverted). -/
def decimalSubSum (a m : Byte) (c : Bool) : BitVec 16 :=
  let s0 := zext16 a + zext16 m + carryIn c
  let s1 := if nibbleSum a m c ≤ 0x0F then s0 - 0x06#16 else s0
  if s0 ≤ 0xFF#16 then s1 - 0x60#16 else s1

/-- `AddCoreDecimal(a, m, c, sub)` of R121, the spec's reference algorithm (log 7). -/
def addCoreDecimal (a m : Byte) (c sub : Bool) (p : Byte) : Alu :=
  sumResult a m (if sub then decimalSubSum a m c else decimalAddSum a m c) p

/-- The adder ADC and SBC use: decimal "if and only if `decimal_mode_enabled` is true and `P.D == 1`" (R121). -/
def adder (cfg : Config) (a m : Byte) (sub : Bool) (p : Byte) : Alu :=
  if cfg.decimalModeEnabled && getFlag .decimal p
  then addCoreDecimal a m (getFlag .carry p) sub p
  else addCore a m (getFlag .carry p) p

/-- `Compare(reg, m)` of R165: the difference, and P with C, Z, N written. -/
def compareBytes (reg m : Byte) (p : Byte) : Alu :=
  let d := reg - m
  { value := d
    status := setFlag .negative d.msb
      (setFlag .zero (decide (reg = m)) (setFlag .carry (decide (m ≤ reg)) p)) }

/-- A shift's result and flags: C from the bit shifted off, Z and N from the result (R140). -/
def shifted (r : Byte) (out : Bool) (p : Byte) : Alu :=
  { value := r, status := setZN r (setFlag .carry out p) }

/-- ASL (R141). -/
def aslByte (v p : Byte) : Alu := shifted (v <<< 1) (v.getLsbD 7) p

/-- LSR (R142). -/
def lsrByte (v p : Byte) : Alu := shifted (v >>> 1) (v.getLsbD 0) p

/-- ROL through carry (R143): bits 6 to 0 of `v`, then the prior Carry. -/
def rolByte (v p : Byte) : Alu :=
  shifted (v.extractLsb' 0 7 ++ BitVec.ofBool (getFlag .carry p)) (v.getLsbD 7) p

/-- ROR through carry (R144): the prior Carry, then bits 7 to 1 of `v`. -/
def rorByte (v p : Byte) : Alu :=
  shifted (BitVec.ofBool (getFlag .carry p) ++ v.extractLsb' 1 7) (v.getLsbD 0) p

/-- The PLP rule (46_stack_control.md R176): every bit of `v` but the two Break bits, which keep their live value. -/
def pulledStatus (v p : Byte) : Byte := (v &&& 0xCF#8) ||| (p &&& 0x30#8)

end Sys2Proof.Machine
end

