-- ==== Sys2Proof/Machine/Memory.lean ====
section
/-! DEFINITION. The memory behind the bus port, as plain RAM (20_memory.md R41, R69 reading (a); log 1): 65536
bytes held as a list of address and byte pairs in one canonical form. -/

namespace Sys2Proof.Machine

/-- Addresses strictly rising, each below 65536, and no entry equal to what an unlisted address reads as. -/
abbrev Memory := List Host.Cell

/-- The number of byte locations of the one address space (R41). -/
def addressSpace : Nat := 65536

/-- What a byte that nothing has written reads as. DESIGN CHOICE (log 2, unsafe): the spec says "whatever the
bus holds" (R320); 0x00 is the convention of the spec's test vectors. -/
def unlistedByte (_ : Nat) : Byte := 0x00#8

/-- The byte at address `k`. -/
def Memory.read : Memory → Nat → Byte
  | [], k => unlistedByte k
  | (k', v) :: m, k => if k' = k then v else Memory.read m k

/-- Store `v` at address `k`, keeping the canonical form. -/
def Memory.write : Memory → Nat → Byte → Memory
  | [], k, v => if v = unlistedByte k then [] else [(k, v)]
  | (k', v') :: m, k, v =>
    if k < k' then (if v = unlistedByte k then (k', v') :: m else (k, v) :: (k', v') :: m)
    else if k = k' then (if v = unlistedByte k then m else (k, v) :: m)
    else (k', v') :: Memory.write m k v

/-- The canonical form of a memory whose addresses are all at least `lo`. -/
def Memory.wfFrom (lo : Nat) : Memory → Bool
  | [] => true
  | (k, v) :: m =>
    decide (lo ≤ k) && decide (k < addressSpace) && decide (v ≠ unlistedByte k) && Memory.wfFrom (k + 1) m

/-- The canonical form. -/
def Memory.wf (m : Memory) : Bool := Memory.wfFrom 0 m

end Sys2Proof.Machine
end

