-- ==== Sys2Proof/Machine/State.lean ====
section
/-! DEFINITION. The state record (10_state.md R20), the reasons a step can stop, and the state after reset. -/

namespace Sys2Proof.Machine

/-- An output event of the block: a bus access with its address and byte (20_memory.md R50 to R52), or the
diagnostic notice carrying the opcode byte (60_exceptions.md R308). -/
inductive PortEvent where
  | read (a : Addr) (v : Byte)
  | write (a : Addr) (v : Byte)
  | diagnostic (op : Byte)
deriving DecidableEq, Repr

/-- The reasons a step could fault: none. "The hardware raises no synchronous exception" (60_exceptions.md R290),
no access faults (20_memory.md R68), and KIL's halt is a terminal state of the machine (10_state.md R40), not a
fault (log 6, log 15). -/
inductive Fault where
deriving DecidableEq, Repr

/-- The reasons a step could refuse. -/
inductive Refusal where
  /-- Raised by an arm of `exec` whose instruction has no meaning yet. Safe. No arm raises it in this model. -/
  | notModelled (mnemonic : String)
deriving DecidableEq, Repr

/-- The state record of R20, the memory behind the bus, the straps (R36), and the port trace. -/
structure State where
  /-- accumulator A (R21) -/
  a : Byte
  /-- x_register (R22) -/
  x : Byte
  /-- y_register (R23) -/
  y : Byte
  /-- stack_pointer (R24) -/
  sp : Byte
  /-- status_register P, N V U B D I Z C (R27) -/
  p : Byte
  /-- program_counter (R26) -/
  pc : Addr
  /-- remaining_cycles, "8-bit countdown" (R32) -/
  remainingCycles : Byte
  /-- total_cycles, unbounded (R33) -/
  totalCycles : Nat
  /-- pending_nmi latch (R34) -/
  pendingNmi : Bool
  /-- pending_irq latch (R35) -/
  pendingIrq : Bool
  /-- halted (R40) -/
  halted : Bool
  /-- the RAM behind the bus (R41, R69) -/
  mem : Memory
  /-- the straps; nothing writes them (R36, log 4) -/
  straps : Config
  /-- the MODEL's own record of the block's output events, newest first (R58, R308, log 5) -/
  trace : List PortEvent
deriving DecidableEq, Repr

/-- What a meaning answers with. -/
abbrev Result := Host.Outcome State Fault Refusal

/-- The machine right after reset: the reset column of 10_state.md R44, on a machine just powered on (log 3).
PC is Read16(0xFFFC) over memory with nothing listed, and the trace holds the two vector reads (R322). -/
def State.reset : State where
  a := 0x00#8
  x := 0x00#8
  y := 0x00#8
  sp := 0xFD#8
  p := Config.atReset.bootStatus.toByte
  pc := 0x0000#16
  remainingCycles := 8#8
  totalCycles := 0
  pendingNmi := false
  pendingIrq := false
  halted := false
  mem := []
  straps := Config.atReset
  trace := [.read 0xFFFD#16 0x00#8, .read 0xFFFC#16 0x00#8]

end Sys2Proof.Machine
end

