-- ==== Sys2Proof/Machine/Ops.lean ====
section
/-! DEFINITION. The named operations over memory and registers: the bus primitives (20_memory.md), the stack
primitives (46_stack_control.md R170 to R172), taking an interrupt and returning from one (60_exceptions.md
R296, 46_stack_control.md R179, R180), the cycle counters (50_execution_engine.md R274, R275), and the input
events of the block (60_exceptions.md R292, R293; 70_reset_and_hazards.md R320, R322; 50_execution_engine.md R279). -/

namespace Sys2Proof.Machine

/-- Record one output event of the block (log 5). -/
def record (e : PortEvent) (s : State) : State := { s with trace := e :: s.trace }

/-- The byte the RAM holds at a 16-bit address, with no bus access. -/
def State.byteAt (s : State) (addr : Addr) : Byte := s.mem.read addr.toNat

/-- `MemRead(addr, 1)` (R51). -/
def memRead (addr : Addr) (s : State) : Byte × State :=
  (s.byteAt addr, record (.read addr (s.byteAt addr)) s)

/-- `MemWrite(addr, 1, v)` (R52). -/
def memWrite (addr : Addr) (v : Byte) (s : State) : State :=
  { s with mem := s.mem.write addr.toNat v, trace := .write addr v :: s.trace }

/-- `Read16(addr)` (R53): low byte first; the second address wraps from 0xFFFF to 0x0000. -/
def read16 (addr : Addr) (s : State) : Addr × State :=
  let lo := memRead addr s
  let hi := memRead (addr + 1#16) lo.2
  (word hi.1 lo.1, hi.2)

/-- The stack page address `0x0100 + zext_16(SP)` (R24). -/
def stackAddr (sp : Byte) : Addr := 0x0100#16 + zext16 sp

/-- `Push(v)` (R170). -/
def push (v : Byte) (s : State) : State :=
  let t := memWrite (stackAddr s.sp) v s
  { t with sp := t.sp - 1#8 }

/-- `Pop()` (R171). -/
def pop (s : State) : Byte × State :=
  let sp' := s.sp + 1#8
  memRead (stackAddr sp') { s with sp := sp' }

/-- `Push16(w)` (R172): high byte, then low byte. -/
def push16 (w : Addr) (s : State) : State := push (lowByte w) (push (highByte w) s)

/-- `Pop16()` (R172): low byte, then high byte. -/
def pop16 (s : State) : Addr × State :=
  let lo := pop s
  let hi := pop lo.2
  (word hi.1 lo.1, hi.2)

/-- The NMI vector address (R60). -/
def nmiVector : Addr := 0xFFFA#16
/-- The reset vector address (R60). -/
def resetVector : Addr := 0xFFFC#16
/-- The vector address shared by IRQ and BRK (R60). -/
def irqVector : Addr := 0xFFFE#16

/-- Taking an interrupt, the sequence BRK, IRQ and NMI share (R179, R296): push the return address, push the
given status byte, set InterruptDisable live, load PC from the vector. -/
def enterInterrupt (returnAddr : Addr) (pushedStatus : Byte) (vector : Addr) (s : State) : State :=
  let t := push pushedStatus (push16 returnAddr s)
  let r := read16 vector { t with p := setFlag .interruptDisable true t.p }
  { r.2 with pc := r.1 }

/-- The return from an interrupt (R180): P under the PLP rule, then PC with no adjustment. -/
def returnFromInterrupt (s : State) : State :=
  let v := pop s
  let r := pop16 { v.2 with p := pulledStatus v.1 v.2.p }
  { r.2 with pc := r.1 }

/-- Add to `remaining_cycles` modulo 256. -/
def addCycles (n : Nat) (s : State) : State :=
  { s with remainingCycles := s.remainingCycles + BitVec.ofNat 8 n }

/-- The end of `Dispatch()` (R272, R274): a machine that has just halted loads no budget. -/
def loadBudget (n : Nat) (s : State) : State := if s.halted then s else addCycles n s

/-- `Service(vector, cost)` (R296); the latch was cleared by the caller. The pushed copy has
`INT_PUSH_BREAK_MASK` forced on and the live Break bits are unchanged. -/
def service (vector : Addr) (cost : Nat) (s : State) : State :=
  addCycles cost (enterInterrupt s.pc (s.p ||| s.straps.intPushBreakMask.toByte) vector s)

/-- The end of every tick that is not halted (R275). -/
def endTick (s : State) : State :=
  { s with remainingCycles := s.remainingCycles - 1#8, totalCycles := s.totalCycles + 1 }

/-- The opcode fetch of a dispatch (R272): the first bus access, delivering `op`, and PC past it. -/
def fetchOpcode (op : Byte) (s : State) : State :=
  { s with pc := s.pc + 1#16, trace := .read s.pc op :: s.trace }

/-- The instruction that stands in memory at PC (R273). It is a lookup for decoding; the bus accesses are those
the dispatch itself makes (log 9). -/
def fetchedInstr (s : State) : Instr :=
  decodeOpcode (s.byteAt s.pc) (s.byteAt (s.pc + 1#16)) (s.byteAt (s.pc + 2#16))

/-- The NMI request input event (R292). -/
def nmiRequest (s : State) : State := { s with pendingNmi := true }

/-- The IRQ request input event (R293). -/
def irqRequest (s : State) : State := { s with pendingIrq := true }

/-- The PC load input event, `set_program_counter(v)` (R279). -/
def setProgramCounter (v : Addr) (s : State) : State := { s with pc := v }

/-- The reset input event, `Reset()` (R322). -/
def resetEvent (s : State) : State :=
  let r := read16 resetVector s
  { r.2 with
    pc := r.1
    a := 0x00#8
    x := 0x00#8
    y := 0x00#8
    sp := 0xFD#8
    p := s.straps.bootStatus.toByte
    remainingCycles := 8#8
    halted := false }

/-- Power-on with boot program counter `bootPc`, the form "with a supplied boot PC" (R320). -/
def powerOn (cfg : Config) (bootPc : Addr) (mem : Memory) : State where
  a := 0x00#8
  x := 0x00#8
  y := 0x00#8
  sp := 0xFD#8
  p := cfg.bootStatus.toByte
  pc := bootPc
  remainingCycles := 0#8
  totalCycles := 0
  pendingNmi := false
  pendingIrq := false
  halted := false
  mem := mem
  straps := cfg
  trace := []

/-- Power-on, the default form: `BOOT_PC` is 0x0400 (R320). -/
def powerOnDefault (cfg : Config) (mem : Memory) : State := powerOn cfg 0x0400#16 mem

/-- Power-on, the form that reads the reset vector (R320; `remaining_cycles` is 0, log 12). -/
def powerOnFromVector (cfg : Config) (mem : Memory) : State :=
  let r := read16 resetVector (powerOn cfg 0x0000#16 mem)
  { r.2 with pc := r.1 }

end Sys2Proof.Machine
end

