-- ==== Sys2Proof/Machine/Operands.lean ====
section
/-! DEFINITION. The operand descriptors (10_state.md R39) and the fifteen addressing-mode resolvers
(40_addressing_modes.md R100 to R117). A resolver is entered with PC at the first operand byte. The three
descriptor variants are three types, so that a semantic function cannot meet one it does not accept (R39, R96). -/

namespace Sys2Proof.Machine

/-- `AbsoluteAddress(ea)`. `inline ea n` is the Immediate mode's AbsoluteAddress(pc0): its byte is the operand
byte `n` of the instruction, which nothing writes before it is read (R105, log 9). -/
inductive MemOperand where
  | cell (ea : Addr)
  | inline (ea : Addr) (n : Byte)
deriving DecidableEq, Repr

/-- The 16-bit address inside the descriptor (00_scope.md R12). -/
def MemOperand.ea : MemOperand → Addr
  | .cell ea => ea
  | .inline ea _ => ea

/-- The byte `MemRead(ea, 1)` answers for this descriptor. -/
def MemOperand.byte (o : MemOperand) (s : State) : Byte :=
  match o with
  | .cell ea => s.byteAt ea
  | .inline _ n => n

/-- `MemRead(ea, 1)` by a semantic function. -/
def readOperand (o : MemOperand) (s : State) : Byte × State :=
  (o.byte s, record (.read o.ea (o.byte s)) s)

/-- What a resolver returns: the descriptor, the extra-cycle signal, and the state with PC advanced (R100). -/
structure Resolved (δ : Type) where
  opd : δ
  extra : Nat
  state : State

/-- The read of one operand byte at PC, delivering the instruction's byte `v` (log 9), and PC past it. -/
def fetchOperand (v : Byte) (s : State) : State :=
  { s with pc := s.pc + 1#16, trace := .read s.pc v :: s.trace }

/-- `crossed(base, ea)` of R115, as the extra cycle it signals. -/
def crossing (base ea : Addr) : Nat := if highByte base = highByte ea then 0 else 1

/-- Implied (R106). -/
def implied (s : State) : Resolved Unit := { opd := (), extra := 0, state := s }

/-- Relative (R111): the raw offset byte. -/
def relative (n : Byte) (s : State) : Resolved Byte := { opd := n, extra := 0, state := fetchOperand n s }

/-- Immediate (R105): no bus read; the operand is the current PC location. -/
def immediate (n : Byte) (s : State) : Resolved MemOperand :=
  { opd := .inline s.pc n, extra := 0, state := { s with pc := s.pc + 1#16 } }

/-- Absolute (R101). -/
def absolute (l h : Byte) (s : State) : Resolved MemOperand :=
  { opd := .cell (word h l), extra := 0, state := fetchOperand h (fetchOperand l s) }

/-- The indexed Absolute modes (R102, R103): the 16-bit base plus an 8-bit index. -/
def absoluteIndexed (index : Byte) (l h : Byte) (s : State) : Resolved MemOperand :=
  let base := word h l
  let ea := base + zext16 index
  { opd := .cell ea, extra := crossing base ea, state := fetchOperand h (fetchOperand l s) }

/-- A const-cycle variant: the same resolution with no extra-cycle signal (R104, R110). -/
def constCycle (r : Resolved MemOperand) : Resolved MemOperand := { r with extra := 0 }

/-- Absolute,X (R102). -/
def absoluteX (l h : Byte) (s : State) : Resolved MemOperand := absoluteIndexed s.x l h s

/-- Absolute,Y (R103). -/
def absoluteY (l h : Byte) (s : State) : Resolved MemOperand := absoluteIndexed s.y l h s

/-- Absolute,X const-cycle (R104). -/
def absoluteXConst (l h : Byte) (s : State) : Resolved MemOperand := constCycle (absoluteX l h s)

/-- Absolute,Y const-cycle (R104). -/
def absoluteYConst (l h : Byte) (s : State) : Resolved MemOperand := constCycle (absoluteY l h s)

/-- Where the Indirect mode reads the target's high byte: the page of the pointer is kept (R107). -/
def samePageNext (ptr : Addr) : Addr := word (highByte ptr) (lowByte ptr + 1#8)

/-- Indirect (R107), with the page-wrap bug. -/
def indirect (l h : Byte) (s : State) : Resolved MemOperand :=
  let ptr := word h l
  let lo := memRead ptr (fetchOperand h (fetchOperand l s))
  let hi := memRead (samePageNext ptr) lo.2
  { opd := .cell (word hi.1 lo.1), extra := 0, state := hi.2 }

/-- The 16-bit word at a zero-page pointer; both bytes wrap within page 0 (R108, R109). -/
def zeroPageWord (p : Byte) (s : State) : Addr × State :=
  let lo := memRead (zext16 p) s
  let hi := memRead (zext16 (p + 1#8)) lo.2
  (word hi.1 lo.1, hi.2)

/-- Indirect,X (R108). -/
def indirectX (n : Byte) (s : State) : Resolved MemOperand :=
  let w := zeroPageWord (n + s.x) (fetchOperand n s)
  { opd := .cell w.1, extra := 0, state := w.2 }

/-- Indirect,Y (R109). -/
def indirectY (n : Byte) (s : State) : Resolved MemOperand :=
  let w := zeroPageWord n (fetchOperand n s)
  let ea := w.1 + zext16 s.y
  { opd := .cell ea, extra := crossing w.1 ea, state := w.2 }

/-- Indirect,Y const-cycle (R110). -/
def indirectYConst (n : Byte) (s : State) : Resolved MemOperand := constCycle (indirectY n s)

/-- Zero Page (R112). -/
def zeroPage (n : Byte) (s : State) : Resolved MemOperand :=
  { opd := .cell (zext16 n), extra := 0, state := fetchOperand n s }

/-- Zero Page,X (R113): the address never leaves page 0. -/
def zeroPageX (n : Byte) (s : State) : Resolved MemOperand :=
  { opd := .cell (zext16 (n + s.x)), extra := 0, state := fetchOperand n s }

/-- Zero Page,Y (R114). -/
def zeroPageY (n : Byte) (s : State) : Resolved MemOperand :=
  { opd := .cell (zext16 (n + s.y)), extra := 0, state := fetchOperand n s }

/-- The resolver of each mode that returns an AbsoluteAddress, by name (R117). `b1`, `b2` are the operand bytes;
a mode of one operand byte ignores `b2`. The meanings call the resolvers above directly; statements about many
rows use this table. -/
def resolve (m : AddrMode) (b1 b2 : Byte) (s : State) : Resolved MemOperand :=
  match m with
  | .absolute => absolute b1 b2 s
  | .absoluteX => absoluteX b1 b2 s
  | .absoluteXConst => absoluteXConst b1 b2 s
  | .absoluteY => absoluteY b1 b2 s
  | .absoluteYConst => absoluteYConst b1 b2 s
  | .immediate => immediate b1 s
  | .indirect => indirect b1 b2 s
  | .indirectX => indirectX b1 s
  | .indirectY => indirectY b1 s
  | .indirectYConst => indirectYConst b1 s
  | .zeroPage => zeroPage b1 s
  | .zeroPageX => zeroPageX b1 s
  | .zeroPageY => zeroPageY b1 s

/-- One dispatch of a legal row (50_execution_engine.md R272, R274): opcode fetch, resolver, semantic function,
cycle budget. A branch adds its own extra cycles inside its semantic function (R150, 90_conflicts.md C1). -/
def dispatchLegal {δ : Type} (op : Byte) (base : Nat) (resolver : State → Resolved δ)
    (semantic : δ → State → State) (s : State) : Result :=
  let r := resolver (fetchOpcode op s)
  .next (loadBudget (base + r.extra) (semantic r.opd r.state))

/-- One dispatch of an illegal row: the gate of 49_nop_illegal.md R231 replaces only the semantic function. -/
def dispatchIllegal {δ : Type} (op : Byte) (base : Nat) (resolver : State → Resolved δ)
    (semantic : δ → State → State) (s : State) : Result :=
  let r := resolver (fetchOpcode op s)
  .next (loadBudget (base + r.extra)
    (if r.state.straps.illegalOpcodesEnabled then semantic r.opd r.state
     else record (.diagnostic op) r.state))

end Sys2Proof.Machine
end

