-- ==== Sys2Proof/Machine/Arithmetic.lean ====
section
/-! DEFINITION. ADC and SBC (41_arithmetic.md R122, R123). -/

namespace Sys2Proof.Machine

/-- Write the adder's result to A and its flags to P (R120, R121). -/
def addToA (m : Byte) (sub : Bool) (s : State) : State :=
  let r := adder s.straps s.a m sub s.p
  { s with a := r.value, p := r.status }

/-- ADC (R122). -/
def opAdc (o : MemOperand) (s : State) : State :=
  let m := readOperand o s
  addToA m.1 false m.2

/-- SBC (R123): the operand bit-inverted. -/
def opSbc (o : MemOperand) (s : State) : State :=
  let m := readOperand o s
  addToA (m.1 ^^^ 0xFF#8) true m.2

/-- 0x61 ADC ($nn,X): Indirect,X, base cost 6 (R122, R85). -/
def execAdcIzx (n : Byte) (s : State) : Result := dispatchLegal 0x61#8 6 (indirectX n) opAdc s

/-- 0x65 ADC $nn: Zero Page, base cost 3 (R122, R85). -/
def execAdcZp (n : Byte) (s : State) : Result := dispatchLegal 0x65#8 3 (zeroPage n) opAdc s

/-- 0x69 ADC #$nn: Immediate, base cost 2 (R122, R85). -/
def execAdcImm (n : Byte) (s : State) : Result := dispatchLegal 0x69#8 2 (immediate n) opAdc s

/-- 0x6D ADC $nnnn: Absolute, base cost 4 (R122, R85). -/
def execAdcAbs (l h : Byte) (s : State) : Result := dispatchLegal 0x6D#8 4 (absolute l h) opAdc s

/-- 0x71 ADC ($nn),Y: Indirect,Y, base cost 5 (R122, R85). -/
def execAdcIzy (n : Byte) (s : State) : Result := dispatchLegal 0x71#8 5 (indirectY n) opAdc s

/-- 0x75 ADC $nn,X: Zero Page,X, base cost 4 (R122, R85). -/
def execAdcZpx (n : Byte) (s : State) : Result := dispatchLegal 0x75#8 4 (zeroPageX n) opAdc s

/-- 0x79 ADC $nnnn,Y: Absolute,Y, base cost 4 (R122, R85). -/
def execAdcAby (l h : Byte) (s : State) : Result := dispatchLegal 0x79#8 4 (absoluteY l h) opAdc s

/-- 0x7D ADC $nnnn,X: Absolute,X, base cost 4 (R122, R85). -/
def execAdcAbx (l h : Byte) (s : State) : Result := dispatchLegal 0x7D#8 4 (absoluteX l h) opAdc s

/-- 0xE1 SBC ($nn,X): Indirect,X, base cost 6 (R123, R85). -/
def execSbcIzx (n : Byte) (s : State) : Result := dispatchLegal 0xE1#8 6 (indirectX n) opSbc s

/-- 0xE5 SBC $nn: Zero Page, base cost 3 (R123, R85). -/
def execSbcZp (n : Byte) (s : State) : Result := dispatchLegal 0xE5#8 3 (zeroPage n) opSbc s

/-- 0xE9 SBC #$nn: Immediate, base cost 2 (R123, R85). -/
def execSbcImm (n : Byte) (s : State) : Result := dispatchLegal 0xE9#8 2 (immediate n) opSbc s

/-- 0xED SBC $nnnn: Absolute, base cost 4 (R123, R85). -/
def execSbcAbs (l h : Byte) (s : State) : Result := dispatchLegal 0xED#8 4 (absolute l h) opSbc s

/-- 0xF1 SBC ($nn),Y: Indirect,Y, base cost 5 (R123, R85). -/
def execSbcIzy (n : Byte) (s : State) : Result := dispatchLegal 0xF1#8 5 (indirectY n) opSbc s

/-- 0xF5 SBC $nn,X: Zero Page,X, base cost 4 (R123, R85). -/
def execSbcZpx (n : Byte) (s : State) : Result := dispatchLegal 0xF5#8 4 (zeroPageX n) opSbc s

/-- 0xF9 SBC $nnnn,Y: Absolute,Y, base cost 4 (R123, R85). -/
def execSbcAby (l h : Byte) (s : State) : Result := dispatchLegal 0xF9#8 4 (absoluteY l h) opSbc s

/-- 0xFD SBC $nnnn,X: Absolute,X, base cost 4 (R123, R85). -/
def execSbcAbx (l h : Byte) (s : State) : Result := dispatchLegal 0xFD#8 4 (absoluteX l h) opSbc s

end Sys2Proof.Machine
end

