-- ==== Sys2Proof/Machine/Branch.lean ====
section
/-! DEFINITION. The eight conditional branches (44_branch.md R150 to R158). -/

namespace Sys2Proof.Machine

/-- The branch target: the address of the next instruction plus the sign-extended offset (R150). -/
def branchTarget (base : Addr) (n : Byte) : Addr := base + sext16 n

/-- `extra_sem` of a taken branch (R150): 1 on the same page, 2 across pages. -/
def branchExtra (base target : Addr) : Nat := 1 + crossing base target

/-- `Branch(cond, opd)` (R150). `extra_sem` is added to the cycle counter here; the engine adds base and extra
(R274, 90_conflicts.md C1). -/
def branch (cond : Bool) (n : Byte) (s : State) : State :=
  if cond then
    let target := branchTarget s.pc n
    addCycles (branchExtra s.pc target) { s with pc := target }
  else s

/-- BCC (R151). -/
def opBcc (n : Byte) (s : State) : State := branch (!getFlag .carry s.p) n s
/-- BCS (R152). -/
def opBcs (n : Byte) (s : State) : State := branch (getFlag .carry s.p) n s
/-- BEQ (R153). -/
def opBeq (n : Byte) (s : State) : State := branch (getFlag .zero s.p) n s
/-- BNE (R154). -/
def opBne (n : Byte) (s : State) : State := branch (!getFlag .zero s.p) n s
/-- BMI (R155). -/
def opBmi (n : Byte) (s : State) : State := branch (getFlag .negative s.p) n s
/-- BPL (R156). -/
def opBpl (n : Byte) (s : State) : State := branch (!getFlag .negative s.p) n s
/-- BVC (R157). -/
def opBvc (n : Byte) (s : State) : State := branch (!getFlag .overflow s.p) n s
/-- BVS (R158). -/
def opBvs (n : Byte) (s : State) : State := branch (getFlag .overflow s.p) n s

/-- 0x10 BPL $nnnn (target): Relative, base cost 2 (R156, R85). -/
def execBpl (n : Byte) (s : State) : Result := dispatchLegal 0x10#8 2 (relative n) opBpl s

/-- 0x30 BMI $nnnn (target): Relative, base cost 2 (R155, R85). -/
def execBmi (n : Byte) (s : State) : Result := dispatchLegal 0x30#8 2 (relative n) opBmi s

/-- 0x50 BVC $nnnn (target): Relative, base cost 2 (R157, R85). -/
def execBvc (n : Byte) (s : State) : Result := dispatchLegal 0x50#8 2 (relative n) opBvc s

/-- 0x70 BVS $nnnn (target): Relative, base cost 2 (R158, R85). -/
def execBvs (n : Byte) (s : State) : Result := dispatchLegal 0x70#8 2 (relative n) opBvs s

/-- 0x90 BCC $nnnn (target): Relative, base cost 2 (R151, R85). -/
def execBcc (n : Byte) (s : State) : Result := dispatchLegal 0x90#8 2 (relative n) opBcc s

/-- 0xB0 BCS $nnnn (target): Relative, base cost 2 (R152, R85). -/
def execBcs (n : Byte) (s : State) : Result := dispatchLegal 0xB0#8 2 (relative n) opBcs s

/-- 0xD0 BNE $nnnn (target): Relative, base cost 2 (R154, R85). -/
def execBne (n : Byte) (s : State) : Result := dispatchLegal 0xD0#8 2 (relative n) opBne s

/-- 0xF0 BEQ $nnnn (target): Relative, base cost 2 (R153, R85). -/
def execBeq (n : Byte) (s : State) : Result := dispatchLegal 0xF0#8 2 (relative n) opBeq s

end Sys2Proof.Machine
end

