-- ==== Sys2Proof/Machine/Compare.lean ====
section
/-! DEFINITION. CMP, CPX, CPY (45_compare.md R165 to R168). -/

namespace Sys2Proof.Machine

/-- CMP (R166). -/
def opCmp (o : MemOperand) (s : State) : State :=
  let m := readOperand o s
  { m.2 with p := (compareBytes m.2.a m.1 m.2.p).status }

/-- CPX (R167). -/
def opCpx (o : MemOperand) (s : State) : State :=
  let m := readOperand o s
  { m.2 with p := (compareBytes m.2.x m.1 m.2.p).status }

/-- CPY (R168). -/
def opCpy (o : MemOperand) (s : State) : State :=
  let m := readOperand o s
  { m.2 with p := (compareBytes m.2.y m.1 m.2.p).status }

/-- 0xC0 CPY #$nn: Immediate, base cost 2 (R168, R85). -/
def execCpyImm (n : Byte) (s : State) : Result := dispatchLegal 0xC0#8 2 (immediate n) opCpy s

/-- 0xC1 CMP ($nn,X): Indirect,X, base cost 6 (R166, R85). -/
def execCmpIzx (n : Byte) (s : State) : Result := dispatchLegal 0xC1#8 6 (indirectX n) opCmp s

/-- 0xC4 CPY $nn: Zero Page, base cost 3 (R168, R85). -/
def execCpyZp (n : Byte) (s : State) : Result := dispatchLegal 0xC4#8 3 (zeroPage n) opCpy s

/-- 0xC5 CMP $nn: Zero Page, base cost 3 (R166, R85). -/
def execCmpZp (n : Byte) (s : State) : Result := dispatchLegal 0xC5#8 3 (zeroPage n) opCmp s

/-- 0xC9 CMP #$nn: Immediate, base cost 2 (R166, R85). -/
def execCmpImm (n : Byte) (s : State) : Result := dispatchLegal 0xC9#8 2 (immediate n) opCmp s

/-- 0xCC CPY $nnnn: Absolute, base cost 4 (R168, R85). -/
def execCpyAbs (l h : Byte) (s : State) : Result := dispatchLegal 0xCC#8 4 (absolute l h) opCpy s

/-- 0xCD CMP $nnnn: Absolute, base cost 4 (R166, R85). -/
def execCmpAbs (l h : Byte) (s : State) : Result := dispatchLegal 0xCD#8 4 (absolute l h) opCmp s

/-- 0xD1 CMP ($nn),Y: Indirect,Y, base cost 5 (R166, R85). -/
def execCmpIzy (n : Byte) (s : State) : Result := dispatchLegal 0xD1#8 5 (indirectY n) opCmp s

/-- 0xD5 CMP $nn,X: Zero Page,X, base cost 4 (R166, R85). -/
def execCmpZpx (n : Byte) (s : State) : Result := dispatchLegal 0xD5#8 4 (zeroPageX n) opCmp s

/-- 0xD9 CMP $nnnn,Y: Absolute,Y, base cost 4 (R166, R85). -/
def execCmpAby (l h : Byte) (s : State) : Result := dispatchLegal 0xD9#8 4 (absoluteY l h) opCmp s

/-- 0xDD CMP $nnnn,X: Absolute,X, base cost 4 (R166, R85). -/
def execCmpAbx (l h : Byte) (s : State) : Result := dispatchLegal 0xDD#8 4 (absoluteX l h) opCmp s

/-- 0xE0 CPX #$nn: Immediate, base cost 2 (R167, R85). -/
def execCpxImm (n : Byte) (s : State) : Result := dispatchLegal 0xE0#8 2 (immediate n) opCpx s

/-- 0xE4 CPX $nn: Zero Page, base cost 3 (R167, R85). -/
def execCpxZp (n : Byte) (s : State) : Result := dispatchLegal 0xE4#8 3 (zeroPage n) opCpx s

/-- 0xEC CPX $nnnn: Absolute, base cost 4 (R167, R85). -/
def execCpxAbs (l h : Byte) (s : State) : Result := dispatchLegal 0xEC#8 4 (absolute l h) opCpx s

end Sys2Proof.Machine
end

