-- ==== Sys2Proof/Machine/Logical.lean ====
section
/-! DEFINITION. AND, ORA, EOR, BIT (42_logical.md R130 to R133). -/

namespace Sys2Proof.Machine

/-- `A <- v; SetZN(A)`. -/
def setAZN (v : Byte) (s : State) : State := { s with a := v, p := setZN v s.p }

/-- AND (R130). -/
def opAnd (o : MemOperand) (s : State) : State :=
  let m := readOperand o s
  setAZN (m.2.a &&& m.1) m.2

/-- ORA (R131). -/
def opOra (o : MemOperand) (s : State) : State :=
  let m := readOperand o s
  setAZN (m.2.a ||| m.1) m.2

/-- EOR (R132). -/
def opEor (o : MemOperand) (s : State) : State :=
  let m := readOperand o s
  setAZN (m.2.a ^^^ m.1) m.2

/-- The flags BIT writes (R133): Z from `A & m`, V and N from bits 6 and 7 of `m`. -/
def bitStatus (a m p : Byte) : Byte :=
  setFlag .negative (m.getLsbD 7) (setFlag .overflow (m.getLsbD 6) (setFlag .zero (decide (a &&& m = 0x00#8)) p))

/-- BIT (R133). -/
def opBit (o : MemOperand) (s : State) : State :=
  let m := readOperand o s
  { m.2 with p := bitStatus m.2.a m.1 m.2.p }

/-- 0x01 ORA ($nn,X): Indirect,X, base cost 6 (R131, R85). -/
def execOraIzx (n : Byte) (s : State) : Result := dispatchLegal 0x01#8 6 (indirectX n) opOra s

/-- 0x05 ORA $nn: Zero Page, base cost 3 (R131, R85). -/
def execOraZp (n : Byte) (s : State) : Result := dispatchLegal 0x05#8 3 (zeroPage n) opOra s

/-- 0x09 ORA #$nn: Immediate, base cost 2 (R131, R85). -/
def execOraImm (n : Byte) (s : State) : Result := dispatchLegal 0x09#8 2 (immediate n) opOra s

/-- 0x0D ORA $nnnn: Absolute, base cost 4 (R131, R85). -/
def execOraAbs (l h : Byte) (s : State) : Result := dispatchLegal 0x0D#8 4 (absolute l h) opOra s

/-- 0x11 ORA ($nn),Y: Indirect,Y, base cost 5 (R131, R85). -/
def execOraIzy (n : Byte) (s : State) : Result := dispatchLegal 0x11#8 5 (indirectY n) opOra s

/-- 0x15 ORA $nn,X: Zero Page,X, base cost 4 (R131, R85). -/
def execOraZpx (n : Byte) (s : State) : Result := dispatchLegal 0x15#8 4 (zeroPageX n) opOra s

/-- 0x19 ORA $nnnn,Y: Absolute,Y, base cost 4 (R131, R85). -/
def execOraAby (l h : Byte) (s : State) : Result := dispatchLegal 0x19#8 4 (absoluteY l h) opOra s

/-- 0x1D ORA $nnnn,X: Absolute,X, base cost 4 (R131, R85). -/
def execOraAbx (l h : Byte) (s : State) : Result := dispatchLegal 0x1D#8 4 (absoluteX l h) opOra s

/-- 0x21 AND ($nn,X): Indirect,X, base cost 6 (R130, R85). -/
def execAndIzx (n : Byte) (s : State) : Result := dispatchLegal 0x21#8 6 (indirectX n) opAnd s

/-- 0x24 BIT $nn: Zero Page, base cost 3 (R133, R85). -/
def execBitZp (n : Byte) (s : State) : Result := dispatchLegal 0x24#8 3 (zeroPage n) opBit s

/-- 0x25 AND $nn: Zero Page, base cost 3 (R130, R85). -/
def execAndZp (n : Byte) (s : State) : Result := dispatchLegal 0x25#8 3 (zeroPage n) opAnd s

/-- 0x29 AND #$nn: Immediate, base cost 2 (R130, R85). -/
def execAndImm (n : Byte) (s : State) : Result := dispatchLegal 0x29#8 2 (immediate n) opAnd s

/-- 0x2C BIT $nnnn: Absolute, base cost 4 (R133, R85). -/
def execBitAbs (l h : Byte) (s : State) : Result := dispatchLegal 0x2C#8 4 (absolute l h) opBit s

/-- 0x2D AND $nnnn: Absolute, base cost 4 (R130, R85). -/
def execAndAbs (l h : Byte) (s : State) : Result := dispatchLegal 0x2D#8 4 (absolute l h) opAnd s

/-- 0x31 AND ($nn),Y: Indirect,Y, base cost 5 (R130, R85). -/
def execAndIzy (n : Byte) (s : State) : Result := dispatchLegal 0x31#8 5 (indirectY n) opAnd s

/-- 0x35 AND $nn,X: Zero Page,X, base cost 4 (R130, R85). -/
def execAndZpx (n : Byte) (s : State) : Result := dispatchLegal 0x35#8 4 (zeroPageX n) opAnd s

/-- 0x39 AND $nnnn,Y: Absolute,Y, base cost 4 (R130, R85). -/
def execAndAby (l h : Byte) (s : State) : Result := dispatchLegal 0x39#8 4 (absoluteY l h) opAnd s

/-- 0x3D AND $nnnn,X: Absolute,X, base cost 4 (R130, R85). -/
def execAndAbx (l h : Byte) (s : State) : Result := dispatchLegal 0x3D#8 4 (absoluteX l h) opAnd s

/-- 0x41 EOR ($nn,X): Indirect,X, base cost 6 (R132, R85). -/
def execEorIzx (n : Byte) (s : State) : Result := dispatchLegal 0x41#8 6 (indirectX n) opEor s

/-- 0x45 EOR $nn: Zero Page, base cost 3 (R132, R85). -/
def execEorZp (n : Byte) (s : State) : Result := dispatchLegal 0x45#8 3 (zeroPage n) opEor s

/-- 0x49 EOR #$nn: Immediate, base cost 2 (R132, R85). -/
def execEorImm (n : Byte) (s : State) : Result := dispatchLegal 0x49#8 2 (immediate n) opEor s

/-- 0x4D EOR $nnnn: Absolute, base cost 4 (R132, R85). -/
def execEorAbs (l h : Byte) (s : State) : Result := dispatchLegal 0x4D#8 4 (absolute l h) opEor s

/-- 0x51 EOR ($nn),Y: Indirect,Y, base cost 5 (R132, R85). -/
def execEorIzy (n : Byte) (s : State) : Result := dispatchLegal 0x51#8 5 (indirectY n) opEor s

/-- 0x55 EOR $nn,X: Zero Page,X, base cost 4 (R132, R85). -/
def execEorZpx (n : Byte) (s : State) : Result := dispatchLegal 0x55#8 4 (zeroPageX n) opEor s

/-- 0x59 EOR $nnnn,Y: Absolute,Y, base cost 4 (R132, R85). -/
def execEorAby (l h : Byte) (s : State) : Result := dispatchLegal 0x59#8 4 (absoluteY l h) opEor s

/-- 0x5D EOR $nnnn,X: Absolute,X, base cost 4 (R132, R85). -/
def execEorAbx (l h : Byte) (s : State) : Result := dispatchLegal 0x5D#8 4 (absoluteX l h) opEor s

end Sys2Proof.Machine
end

