-- ==== Sys2Proof/Machine/Transfer.lean ====
section
/-! DEFINITION. Register transfers and flag set/clear (47_transfer_flag.md R190 to R202). -/

namespace Sys2Proof.Machine

/-- `X <- v; SetZN(X)`. -/
def setXZN (v : Byte) (s : State) : State := { s with x := v, p := setZN v s.p }

/-- `Y <- v; SetZN(Y)`. -/
def setYZN (v : Byte) (s : State) : State := { s with y := v, p := setZN v s.p }

/-- A "single-flag write". -/
def writeFlag (f : Flag) (b : Bool) (s : State) : State := { s with p := setFlag f b s.p }

/-- TAX (R190). -/
def opTax (_ : Unit) (s : State) : State := setXZN s.a s
/-- TAY (R191). -/
def opTay (_ : Unit) (s : State) : State := setYZN s.a s
/-- TXA (R192). -/
def opTxa (_ : Unit) (s : State) : State := setAZN s.x s
/-- TYA (R193). -/
def opTya (_ : Unit) (s : State) : State := setAZN s.y s
/-- TSX (R194). -/
def opTsx (_ : Unit) (s : State) : State := setXZN s.sp s
/-- TXS (R195): no flag. -/
def opTxs (_ : Unit) (s : State) : State := { s with sp := s.x }
/-- CLC (R196). -/
def opClc (_ : Unit) (s : State) : State := writeFlag .carry false s
/-- CLD (R197). -/
def opCld (_ : Unit) (s : State) : State := writeFlag .decimal false s
/-- CLI (R198). -/
def opCli (_ : Unit) (s : State) : State := writeFlag .interruptDisable false s
/-- CLV (R199). -/
def opClv (_ : Unit) (s : State) : State := writeFlag .overflow false s
/-- SEC (R200). -/
def opSec (_ : Unit) (s : State) : State := writeFlag .carry true s
/-- SED (R201): whether or not `decimal_mode_enabled`. -/
def opSed (_ : Unit) (s : State) : State := writeFlag .decimal true s
/-- SEI (R202). -/
def opSei (_ : Unit) (s : State) : State := writeFlag .interruptDisable true s

/-- 0x18 CLC: Implied, base cost 2 (R196, R85). -/
def execClc (s : State) : Result := dispatchLegal 0x18#8 2 implied opClc s

/-- 0x38 SEC: Implied, base cost 2 (R200, R85). -/
def execSec (s : State) : Result := dispatchLegal 0x38#8 2 implied opSec s

/-- 0x58 CLI: Implied, base cost 2 (R198, R85). -/
def execCli (s : State) : Result := dispatchLegal 0x58#8 2 implied opCli s

/-- 0x78 SEI: Implied, base cost 2 (R202, R85). -/
def execSei (s : State) : Result := dispatchLegal 0x78#8 2 implied opSei s

/-- 0x8A TXA: Implied, base cost 2 (R192, R85). -/
def execTxa (s : State) : Result := dispatchLegal 0x8A#8 2 implied opTxa s

/-- 0x98 TYA: Implied, base cost 2 (R193, R85). -/
def execTya (s : State) : Result := dispatchLegal 0x98#8 2 implied opTya s

/-- 0x9A TXS: Implied, base cost 2 (R195, R85). -/
def execTxs (s : State) : Result := dispatchLegal 0x9A#8 2 implied opTxs s

/-- 0xA8 TAY: Implied, base cost 2 (R191, R85). -/
def execTay (s : State) : Result := dispatchLegal 0xA8#8 2 implied opTay s

/-- 0xAA TAX: Implied, base cost 2 (R190, R85). -/
def execTax (s : State) : Result := dispatchLegal 0xAA#8 2 implied opTax s

/-- 0xB8 CLV: Implied, base cost 2 (R199, R85). -/
def execClv (s : State) : Result := dispatchLegal 0xB8#8 2 implied opClv s

/-- 0xBA TSX: Implied, base cost 2 (R194, R85). -/
def execTsx (s : State) : Result := dispatchLegal 0xBA#8 2 implied opTsx s

/-- 0xD8 CLD: Implied, base cost 2 (R197, R85). -/
def execCld (s : State) : Result := dispatchLegal 0xD8#8 2 implied opCld s

/-- 0xF8 SED: Implied, base cost 2 (R201, R85). -/
def execSed (s : State) : Result := dispatchLegal 0xF8#8 2 implied opSed s

end Sys2Proof.Machine
end

