-- ==== Sys2Proof/Machine/LoadStore.lean ====
section
/-! DEFINITION. Loads, stores, increments and decrements (48_load_store_incdec.md R210 to R221). -/

namespace Sys2Proof.Machine

/-- LDA (R210). -/
def opLda (o : MemOperand) (s : State) : State :=
  let m := readOperand o s
  setAZN m.1 m.2

/-- LDX (R211). -/
def opLdx (o : MemOperand) (s : State) : State :=
  let m := readOperand o s
  setXZN m.1 m.2

/-- LDY (R212). -/
def opLdy (o : MemOperand) (s : State) : State :=
  let m := readOperand o s
  setYZN m.1 m.2

/-- STA (R213). -/
def opSta (o : MemOperand) (s : State) : State := memWrite o.ea s.a s
/-- STX (R214). -/
def opStx (o : MemOperand) (s : State) : State := memWrite o.ea s.x s
/-- STY (R215). -/
def opSty (o : MemOperand) (s : State) : State := memWrite o.ea s.y s

/-- A read, the write of the stepped byte, and Z and N from it (R216, R217). -/
def stepMem (f : Byte → Byte) (o : MemOperand) (s : State) : State :=
  let m := readOperand o s
  let r := f m.1
  let t := memWrite o.ea r m.2
  { t with p := setZN r t.p }

/-- INC (R216). -/
def opInc (o : MemOperand) (s : State) : State := stepMem (· + 1#8) o s
/-- DEC (R217). -/
def opDec (o : MemOperand) (s : State) : State := stepMem (· - 1#8) o s
/-- INX (R218). -/
def opInx (_ : Unit) (s : State) : State := setXZN (s.x + 1#8) s
/-- INY (R219). -/
def opIny (_ : Unit) (s : State) : State := setYZN (s.y + 1#8) s
/-- DEX (R220). -/
def opDex (_ : Unit) (s : State) : State := setXZN (s.x - 1#8) s
/-- DEY (R221). -/
def opDey (_ : Unit) (s : State) : State := setYZN (s.y - 1#8) s

/-- 0x81 STA ($nn,X): Indirect,X, base cost 6 (R213, R85). -/
def execStaIzx (n : Byte) (s : State) : Result := dispatchLegal 0x81#8 6 (indirectX n) opSta s

/-- 0x84 STY $nn: Zero Page, base cost 3 (R215, R85). -/
def execStyZp (n : Byte) (s : State) : Result := dispatchLegal 0x84#8 3 (zeroPage n) opSty s

/-- 0x85 STA $nn: Zero Page, base cost 3 (R213, R85). -/
def execStaZp (n : Byte) (s : State) : Result := dispatchLegal 0x85#8 3 (zeroPage n) opSta s

/-- 0x86 STX $nn: Zero Page, base cost 3 (R214, R85). -/
def execStxZp (n : Byte) (s : State) : Result := dispatchLegal 0x86#8 3 (zeroPage n) opStx s

/-- 0x88 DEY: Implied, base cost 2 (R221, R85). -/
def execDey (s : State) : Result := dispatchLegal 0x88#8 2 implied opDey s

/-- 0x8C STY $nnnn: Absolute, base cost 4 (R215, R85). -/
def execStyAbs (l h : Byte) (s : State) : Result := dispatchLegal 0x8C#8 4 (absolute l h) opSty s

/-- 0x8D STA $nnnn: Absolute, base cost 4 (R213, R85). -/
def execStaAbs (l h : Byte) (s : State) : Result := dispatchLegal 0x8D#8 4 (absolute l h) opSta s

/-- 0x8E STX $nnnn: Absolute, base cost 4 (R214, R85). -/
def execStxAbs (l h : Byte) (s : State) : Result := dispatchLegal 0x8E#8 4 (absolute l h) opStx s

/-- 0x91 STA ($nn),Y: Indirect,Y const-cycle, base cost 6 (R213, R85). -/
def execStaIzy (n : Byte) (s : State) : Result := dispatchLegal 0x91#8 6 (indirectYConst n) opSta s

/-- 0x94 STY $nn,X: Zero Page,X, base cost 4 (R215, R85). -/
def execStyZpx (n : Byte) (s : State) : Result := dispatchLegal 0x94#8 4 (zeroPageX n) opSty s

/-- 0x95 STA $nn,X: Zero Page,X, base cost 4 (R213, R85). -/
def execStaZpx (n : Byte) (s : State) : Result := dispatchLegal 0x95#8 4 (zeroPageX n) opSta s

/-- 0x96 STX $nn,Y: Zero Page,Y, base cost 4 (R214, R85). -/
def execStxZpy (n : Byte) (s : State) : Result := dispatchLegal 0x96#8 4 (zeroPageY n) opStx s

/-- 0x99 STA $nnnn,Y: Absolute,Y const-cycle, base cost 5 (R213, R85). -/
def execStaAby (l h : Byte) (s : State) : Result := dispatchLegal 0x99#8 5 (absoluteYConst l h) opSta s

/-- 0x9D STA $nnnn,X: Absolute,X const-cycle, base cost 5 (R213, R85). -/
def execStaAbx (l h : Byte) (s : State) : Result := dispatchLegal 0x9D#8 5 (absoluteXConst l h) opSta s

/-- 0xA0 LDY #$nn: Immediate, base cost 2 (R212, R85). -/
def execLdyImm (n : Byte) (s : State) : Result := dispatchLegal 0xA0#8 2 (immediate n) opLdy s

/-- 0xA1 LDA ($nn,X): Indirect,X, base cost 6 (R210, R85). -/
def execLdaIzx (n : Byte) (s : State) : Result := dispatchLegal 0xA1#8 6 (indirectX n) opLda s

/-- 0xA2 LDX #$nn: Immediate, base cost 2 (R211, R85). -/
def execLdxImm (n : Byte) (s : State) : Result := dispatchLegal 0xA2#8 2 (immediate n) opLdx s

/-- 0xA4 LDY $nn: Zero Page, base cost 3 (R212, R85). -/
def execLdyZp (n : Byte) (s : State) : Result := dispatchLegal 0xA4#8 3 (zeroPage n) opLdy s

/-- 0xA5 LDA $nn: Zero Page, base cost 3 (R210, R85). -/
def execLdaZp (n : Byte) (s : State) : Result := dispatchLegal 0xA5#8 3 (zeroPage n) opLda s

/-- 0xA6 LDX $nn: Zero Page, base cost 3 (R211, R85). -/
def execLdxZp (n : Byte) (s : State) : Result := dispatchLegal 0xA6#8 3 (zeroPage n) opLdx s

/-- 0xA9 LDA #$nn: Immediate, base cost 2 (R210, R85). -/
def execLdaImm (n : Byte) (s : State) : Result := dispatchLegal 0xA9#8 2 (immediate n) opLda s

/-- 0xAC LDY $nnnn: Absolute, base cost 4 (R212, R85). -/
def execLdyAbs (l h : Byte) (s : State) : Result := dispatchLegal 0xAC#8 4 (absolute l h) opLdy s

/-- 0xAD LDA $nnnn: Absolute, base cost 4 (R210, R85). -/
def execLdaAbs (l h : Byte) (s : State) : Result := dispatchLegal 0xAD#8 4 (absolute l h) opLda s

/-- 0xAE LDX $nnnn: Absolute, base cost 4 (R211, R85). -/
def execLdxAbs (l h : Byte) (s : State) : Result := dispatchLegal 0xAE#8 4 (absolute l h) opLdx s

/-- 0xB1 LDA ($nn),Y: Indirect,Y, base cost 5 (R210, R85). -/
def execLdaIzy (n : Byte) (s : State) : Result := dispatchLegal 0xB1#8 5 (indirectY n) opLda s

/-- 0xB4 LDY $nn,X: Zero Page,X, base cost 4 (R212, R85). -/
def execLdyZpx (n : Byte) (s : State) : Result := dispatchLegal 0xB4#8 4 (zeroPageX n) opLdy s

/-- 0xB5 LDA $nn,X: Zero Page,X, base cost 4 (R210, R85). -/
def execLdaZpx (n : Byte) (s : State) : Result := dispatchLegal 0xB5#8 4 (zeroPageX n) opLda s

/-- 0xB6 LDX $nn,Y: Zero Page,Y, base cost 4 (R211, R85). -/
def execLdxZpy (n : Byte) (s : State) : Result := dispatchLegal 0xB6#8 4 (zeroPageY n) opLdx s

/-- 0xB9 LDA $nnnn,Y: Absolute,Y, base cost 4 (R210, R85). -/
def execLdaAby (l h : Byte) (s : State) : Result := dispatchLegal 0xB9#8 4 (absoluteY l h) opLda s

/-- 0xBC LDY $nnnn,X: Absolute,X, base cost 4 (R212, R85). -/
def execLdyAbx (l h : Byte) (s : State) : Result := dispatchLegal 0xBC#8 4 (absoluteX l h) opLdy s

/-- 0xBD LDA $nnnn,X: Absolute,X, base cost 4 (R210, R85). -/
def execLdaAbx (l h : Byte) (s : State) : Result := dispatchLegal 0xBD#8 4 (absoluteX l h) opLda s

/-- 0xBE LDX $nnnn,Y: Absolute,Y, base cost 4 (R211, R85). -/
def execLdxAby (l h : Byte) (s : State) : Result := dispatchLegal 0xBE#8 4 (absoluteY l h) opLdx s

/-- 0xC6 DEC $nn: Zero Page, base cost 5 (R217, R85). -/
def execDecZp (n : Byte) (s : State) : Result := dispatchLegal 0xC6#8 5 (zeroPage n) opDec s

/-- 0xC8 INY: Implied, base cost 2 (R219, R85). -/
def execIny (s : State) : Result := dispatchLegal 0xC8#8 2 implied opIny s

/-- 0xCA DEX: Implied, base cost 2 (R220, R85). -/
def execDex (s : State) : Result := dispatchLegal 0xCA#8 2 implied opDex s

/-- 0xCE DEC $nnnn: Absolute, base cost 6 (R217, R85). -/
def execDecAbs (l h : Byte) (s : State) : Result := dispatchLegal 0xCE#8 6 (absolute l h) opDec s

/-- 0xD6 DEC $nn,X: Zero Page,X, base cost 6 (R217, R85). -/
def execDecZpx (n : Byte) (s : State) : Result := dispatchLegal 0xD6#8 6 (zeroPageX n) opDec s

/-- 0xDE DEC $nnnn,X: Absolute,X const-cycle, base cost 7 (R217, R85). -/
def execDecAbx (l h : Byte) (s : State) : Result := dispatchLegal 0xDE#8 7 (absoluteXConst l h) opDec s

/-- 0xE6 INC $nn: Zero Page, base cost 5 (R216, R85). -/
def execIncZp (n : Byte) (s : State) : Result := dispatchLegal 0xE6#8 5 (zeroPage n) opInc s

/-- 0xE8 INX: Implied, base cost 2 (R218, R85). -/
def execInx (s : State) : Result := dispatchLegal 0xE8#8 2 implied opInx s

/-- 0xEE INC $nnnn: Absolute, base cost 6 (R216, R85). -/
def execIncAbs (l h : Byte) (s : State) : Result := dispatchLegal 0xEE#8 6 (absolute l h) opInc s

/-- 0xF6 INC $nn,X: Zero Page,X, base cost 6 (R216, R85). -/
def execIncZpx (n : Byte) (s : State) : Result := dispatchLegal 0xF6#8 6 (zeroPageX n) opInc s

/-- 0xFE INC $nnnn,X: Absolute,X const-cycle, base cost 7 (R216, R85). -/
def execIncAbx (l h : Byte) (s : State) : Result := dispatchLegal 0xFE#8 7 (absoluteXConst l h) opInc s

end Sys2Proof.Machine
end

