-- ==== Sys2Proof/Machine/Shift.lean ====
section
/-! DEFINITION. ASL, LSR, ROL, ROR on the accumulator and on memory (43_shift_rotate.md R140 to R144). -/

namespace Sys2Proof.Machine

/-- The accumulator form (R140): `v <- A`, `A <- r`, no bus access. -/
def shiftAcc (f : Byte → Byte → Alu) (s : State) : State :=
  let r := f s.a s.p
  { s with a := r.value, p := r.status }

/-- The memory form (R140): one read, then one write, of `ea`. -/
def shiftMem (f : Byte → Byte → Alu) (o : MemOperand) (s : State) : State :=
  let v := readOperand o s
  let r := f v.1 v.2.p
  memWrite o.ea r.value { v.2 with p := r.status }

/-- ASL A (R141). -/
def opAslAcc (_ : Unit) (s : State) : State := shiftAcc aslByte s
/-- ASL on memory (R141). -/
def opAsl (o : MemOperand) (s : State) : State := shiftMem aslByte o s
/-- LSR A (R142). -/
def opLsrAcc (_ : Unit) (s : State) : State := shiftAcc lsrByte s
/-- LSR on memory (R142). -/
def opLsr (o : MemOperand) (s : State) : State := shiftMem lsrByte o s
/-- ROL A (R143). -/
def opRolAcc (_ : Unit) (s : State) : State := shiftAcc rolByte s
/-- ROL on memory (R143). -/
def opRol (o : MemOperand) (s : State) : State := shiftMem rolByte o s
/-- ROR A (R144). -/
def opRorAcc (_ : Unit) (s : State) : State := shiftAcc rorByte s
/-- ROR on memory (R144). -/
def opRor (o : MemOperand) (s : State) : State := shiftMem rorByte o s

/-- 0x06 ASL $nn: Zero Page, base cost 5 (R141, R85). -/
def execAslZp (n : Byte) (s : State) : Result := dispatchLegal 0x06#8 5 (zeroPage n) opAsl s

/-- 0x0A ASL A: Implied, base cost 2 (R141, R85). -/
def execAslAcc (s : State) : Result := dispatchLegal 0x0A#8 2 implied opAslAcc s

/-- 0x0E ASL $nnnn: Absolute, base cost 6 (R141, R85). -/
def execAslAbs (l h : Byte) (s : State) : Result := dispatchLegal 0x0E#8 6 (absolute l h) opAsl s

/-- 0x16 ASL $nn,X: Zero Page,X, base cost 6 (R141, R85). -/
def execAslZpx (n : Byte) (s : State) : Result := dispatchLegal 0x16#8 6 (zeroPageX n) opAsl s

/-- 0x1E ASL $nnnn,X: Absolute,X const-cycle, base cost 7 (R141, R85). -/
def execAslAbx (l h : Byte) (s : State) : Result := dispatchLegal 0x1E#8 7 (absoluteXConst l h) opAsl s

/-- 0x26 ROL $nn: Zero Page, base cost 5 (R143, R85). -/
def execRolZp (n : Byte) (s : State) : Result := dispatchLegal 0x26#8 5 (zeroPage n) opRol s

/-- 0x2A ROL A: Implied, base cost 2 (R143, R85). -/
def execRolAcc (s : State) : Result := dispatchLegal 0x2A#8 2 implied opRolAcc s

/-- 0x2E ROL $nnnn: Absolute, base cost 6 (R143, R85). -/
def execRolAbs (l h : Byte) (s : State) : Result := dispatchLegal 0x2E#8 6 (absolute l h) opRol s

/-- 0x36 ROL $nn,X: Zero Page,X, base cost 6 (R143, R85). -/
def execRolZpx (n : Byte) (s : State) : Result := dispatchLegal 0x36#8 6 (zeroPageX n) opRol s

/-- 0x3E ROL $nnnn,X: Absolute,X const-cycle, base cost 7 (R143, R85). -/
def execRolAbx (l h : Byte) (s : State) : Result := dispatchLegal 0x3E#8 7 (absoluteXConst l h) opRol s

/-- 0x46 LSR $nn: Zero Page, base cost 5 (R142, R85). -/
def execLsrZp (n : Byte) (s : State) : Result := dispatchLegal 0x46#8 5 (zeroPage n) opLsr s

/-- 0x4A LSR A: Implied, base cost 2 (R142, R85). -/
def execLsrAcc (s : State) : Result := dispatchLegal 0x4A#8 2 implied opLsrAcc s

/-- 0x4E LSR $nnnn: Absolute, base cost 6 (R142, R85). -/
def execLsrAbs (l h : Byte) (s : State) : Result := dispatchLegal 0x4E#8 6 (absolute l h) opLsr s

/-- 0x56 LSR $nn,X: Zero Page,X, base cost 6 (R142, R85). -/
def execLsrZpx (n : Byte) (s : State) : Result := dispatchLegal 0x56#8 6 (zeroPageX n) opLsr s

/-- 0x5E LSR $nnnn,X: Absolute,X const-cycle, base cost 7 (R142, R85). -/
def execLsrAbx (l h : Byte) (s : State) : Result := dispatchLegal 0x5E#8 7 (absoluteXConst l h) opLsr s

/-- 0x66 ROR $nn: Zero Page, base cost 5 (R144, R85). -/
def execRorZp (n : Byte) (s : State) : Result := dispatchLegal 0x66#8 5 (zeroPage n) opRor s

/-- 0x6A ROR A: Implied, base cost 2 (R144, R85). -/
def execRorAcc (s : State) : Result := dispatchLegal 0x6A#8 2 implied opRorAcc s

/-- 0x6E ROR $nnnn: Absolute, base cost 6 (R144, R85). -/
def execRorAbs (l h : Byte) (s : State) : Result := dispatchLegal 0x6E#8 6 (absolute l h) opRor s

/-- 0x76 ROR $nn,X: Zero Page,X, base cost 6 (R144, R85). -/
def execRorZpx (n : Byte) (s : State) : Result := dispatchLegal 0x76#8 6 (zeroPageX n) opRor s

/-- 0x7E ROR $nnnn,X: Absolute,X const-cycle, base cost 7 (R144, R85). -/
def execRorAbx (l h : Byte) (s : State) : Result := dispatchLegal 0x7E#8 7 (absoluteXConst l h) opRor s

end Sys2Proof.Machine
end

