-- ==== Sys2Proof/Machine/Illegal.lean ====
section
/-! DEFINITION. NOP and the 105 illegal opcode bytes (49_nop_illegal.md R230 to R252). The semantic functions below
are those of the gate ON; `dispatchIllegal` is the gate (R231). A composite applies "the first primitive's rule" to
the descriptor, "then the second's, each exactly as written in its own file, including its bus accesses". The
formulas of the unstable opcodes are the spec's choice among chip-dependent behaviours (U2, log 8). -/

namespace Sys2Proof.Machine

/-- NOP (R230) and the undocumented NOPs (R232): nothing; the effective address is not read. -/
def opNop {δ : Type} (_ : δ) (s : State) : State := s

/-- SLO (R234): ASL, then ORA. -/
def opSlo (o : MemOperand) (s : State) : State := opOra o (opAsl o s)
/-- RLA (R235): ROL, then AND. -/
def opRla (o : MemOperand) (s : State) : State := opAnd o (opRol o s)
/-- SRE (R236): LSR, then EOR. -/
def opSre (o : MemOperand) (s : State) : State := opEor o (opLsr o s)
/-- RRA (R237): ROR, then ADC with the C the ROR produced. -/
def opRra (o : MemOperand) (s : State) : State := opAdc o (opRor o s)
/-- DCP (R240): DEC, then CMP. -/
def opDcp (o : MemOperand) (s : State) : State := opCmp o (opDec o s)
/-- ISC (R241): INC, then SBC. -/
def opIsc (o : MemOperand) (s : State) : State := opSbc o (opInc o s)

/-- SAX (R238): no read of `ea`, no flag. -/
def opSax (o : MemOperand) (s : State) : State := memWrite o.ea (s.a &&& s.x) s

/-- LAX (R239): LDA, then LDX, a second read of `ea`. -/
def opLax (o : MemOperand) (s : State) : State := opLdx o (opLda o s)

/-- LAS (R251). -/
def opLas (o : MemOperand) (s : State) : State :=
  let m := readOperand o s
  let v := m.1 &&& m.2.sp
  { m.2 with a := v, x := v, sp := v, p := setZN v m.2.p }

/-- ANC (R242): AND, then C from N. -/
def opAnc (o : MemOperand) (s : State) : State :=
  let t := opAnd o s
  writeFlag .carry (getFlag .negative t.p) t

/-- ALR (R243): AND, then LSR on the accumulator. -/
def opAlr (o : MemOperand) (s : State) : State := opLsrAcc () (opAnd o s)

/-- ARR (R244): AND, ROR on the accumulator, then C and V replaced. -/
def opArr (o : MemOperand) (s : State) : State :=
  let t := opRorAcc () (opAnd o s)
  writeFlag .overflow (t.a.getLsbD 6 ^^ t.a.getLsbD 5) (writeFlag .carry (t.a.getLsbD 6) t)

/-- XAA (R245): TXA, then AND. -/
def opXaa (o : MemOperand) (s : State) : State := opAnd o (opTxa () s)

/-- AXS (R246): X takes the difference of comparing `A & X` with the operand. -/
def opAxs (o : MemOperand) (s : State) : State :=
  let m := readOperand o s
  let r := compareBytes (m.2.a &&& m.2.x) m.1 m.2.p
  { m.2 with x := r.value, p := r.status }

/-- `H = ea[15:8] +8 1`, taken from the effective address (section 5 of 49_nop_illegal.md). -/
def highPlusOne (ea : Addr) : Byte := highByte ea + 1#8

/-- AHX (R247). -/
def opAhx (o : MemOperand) (s : State) : State := memWrite o.ea (s.a &&& s.x &&& highPlusOne o.ea) s
/-- SHY (R248). -/
def opShy (o : MemOperand) (s : State) : State := memWrite o.ea (s.y &&& highPlusOne o.ea) s
/-- SHX (R249). -/
def opShx (o : MemOperand) (s : State) : State := memWrite o.ea (s.x &&& highPlusOne o.ea) s
/-- TAS (R250): SP takes `A & X`, and `SP & H` is stored. -/
def opTas (o : MemOperand) (s : State) : State :=
  let v := s.a &&& s.x
  memWrite o.ea (v &&& highPlusOne o.ea) { s with sp := v }

/-- KIL (R252): halt. -/
def opKil (_ : Unit) (s : State) : State := { s with halted := true }

/-- 0x02 KIL: Implied, base cost 2 (R252, R85). -/
def execKil02 (s : State) : Result := dispatchIllegal 0x02#8 2 implied opKil s

/-- 0x03 SLO ($nn,X): Indirect,X, base cost 8 (R234, R85). -/
def execSloIzx (n : Byte) (s : State) : Result := dispatchIllegal 0x03#8 8 (indirectX n) opSlo s

/-- 0x04 NOP $nn: Zero Page, base cost 3 (R232, R85). -/
def execNop04 (n : Byte) (s : State) : Result := dispatchIllegal 0x04#8 3 (zeroPage n) opNop s

/-- 0x07 SLO $nn: Zero Page, base cost 5 (R234, R85). -/
def execSloZp (n : Byte) (s : State) : Result := dispatchIllegal 0x07#8 5 (zeroPage n) opSlo s

/-- 0x0B ANC #$nn: Immediate, base cost 2 (R242, R85). -/
def execAnc0B (n : Byte) (s : State) : Result := dispatchIllegal 0x0B#8 2 (immediate n) opAnc s

/-- 0x0C NOP $nnnn: Absolute, base cost 4 (R232, R85). -/
def execNop0C (l h : Byte) (s : State) : Result := dispatchIllegal 0x0C#8 4 (absolute l h) opNop s

/-- 0x0F SLO $nnnn: Absolute, base cost 6 (R234, R85). -/
def execSloAbs (l h : Byte) (s : State) : Result := dispatchIllegal 0x0F#8 6 (absolute l h) opSlo s

/-- 0x12 KIL: Implied, base cost 2 (R252, R85). -/
def execKil12 (s : State) : Result := dispatchIllegal 0x12#8 2 implied opKil s

/-- 0x13 SLO ($nn),Y: Indirect,Y const-cycle, base cost 8 (R234, R85). -/
def execSloIzy (n : Byte) (s : State) : Result := dispatchIllegal 0x13#8 8 (indirectYConst n) opSlo s

/-- 0x14 NOP $nn,X: Zero Page,X, base cost 4 (R232, R85). -/
def execNop14 (n : Byte) (s : State) : Result := dispatchIllegal 0x14#8 4 (zeroPageX n) opNop s

/-- 0x17 SLO $nn,X: Zero Page,X, base cost 6 (R234, R85). -/
def execSloZpx (n : Byte) (s : State) : Result := dispatchIllegal 0x17#8 6 (zeroPageX n) opSlo s

/-- 0x1A NOP: Implied, base cost 2 (R232, R85). -/
def execNop1A (s : State) : Result := dispatchIllegal 0x1A#8 2 implied opNop s

/-- 0x1B SLO $nnnn,Y: Absolute,Y const-cycle, base cost 7 (R234, R85). -/
def execSloAby (l h : Byte) (s : State) : Result := dispatchIllegal 0x1B#8 7 (absoluteYConst l h) opSlo s

/-- 0x1C NOP $nnnn,X: Absolute,X, base cost 4 (R232, R85). -/
def execNop1C (l h : Byte) (s : State) : Result := dispatchIllegal 0x1C#8 4 (absoluteX l h) opNop s

/-- 0x1F SLO $nnnn,X: Absolute,X const-cycle, base cost 7 (R234, R85). -/
def execSloAbx (l h : Byte) (s : State) : Result := dispatchIllegal 0x1F#8 7 (absoluteXConst l h) opSlo s

/-- 0x22 KIL: Implied, base cost 2 (R252, R85). -/
def execKil22 (s : State) : Result := dispatchIllegal 0x22#8 2 implied opKil s

/-- 0x23 RLA ($nn,X): Indirect,X, base cost 8 (R235, R85). -/
def execRlaIzx (n : Byte) (s : State) : Result := dispatchIllegal 0x23#8 8 (indirectX n) opRla s

/-- 0x27 RLA $nn: Zero Page, base cost 5 (R235, R85). -/
def execRlaZp (n : Byte) (s : State) : Result := dispatchIllegal 0x27#8 5 (zeroPage n) opRla s

/-- 0x2B ANC #$nn: Immediate, base cost 2 (R242, R85). -/
def execAnc2B (n : Byte) (s : State) : Result := dispatchIllegal 0x2B#8 2 (immediate n) opAnc s

/-- 0x2F RLA $nnnn: Absolute, base cost 6 (R235, R85). -/
def execRlaAbs (l h : Byte) (s : State) : Result := dispatchIllegal 0x2F#8 6 (absolute l h) opRla s

/-- 0x32 KIL: Implied, base cost 2 (R252, R85). -/
def execKil32 (s : State) : Result := dispatchIllegal 0x32#8 2 implied opKil s

/-- 0x33 RLA ($nn),Y: Indirect,Y const-cycle, base cost 8 (R235, R85). -/
def execRlaIzy (n : Byte) (s : State) : Result := dispatchIllegal 0x33#8 8 (indirectYConst n) opRla s

/-- 0x34 NOP $nn,X: Zero Page,X, base cost 4 (R232, R85). -/
def execNop34 (n : Byte) (s : State) : Result := dispatchIllegal 0x34#8 4 (zeroPageX n) opNop s

/-- 0x37 RLA $nn,X: Zero Page,X, base cost 6 (R235, R85). -/
def execRlaZpx (n : Byte) (s : State) : Result := dispatchIllegal 0x37#8 6 (zeroPageX n) opRla s

/-- 0x3A NOP: Implied, base cost 2 (R232, R85). -/
def execNop3A (s : State) : Result := dispatchIllegal 0x3A#8 2 implied opNop s

/-- 0x3B RLA $nnnn,Y: Absolute,Y const-cycle, base cost 7 (R235, R85). -/
def execRlaAby (l h : Byte) (s : State) : Result := dispatchIllegal 0x3B#8 7 (absoluteYConst l h) opRla s

/-- 0x3C NOP $nnnn,X: Absolute,X, base cost 4 (R232, R85). -/
def execNop3C (l h : Byte) (s : State) : Result := dispatchIllegal 0x3C#8 4 (absoluteX l h) opNop s

/-- 0x3F RLA $nnnn,X: Absolute,X const-cycle, base cost 7 (R235, R85). -/
def execRlaAbx (l h : Byte) (s : State) : Result := dispatchIllegal 0x3F#8 7 (absoluteXConst l h) opRla s

/-- 0x42 KIL: Implied, base cost 2 (R252, R85). -/
def execKil42 (s : State) : Result := dispatchIllegal 0x42#8 2 implied opKil s

/-- 0x43 SRE ($nn,X): Indirect,X, base cost 8 (R236, R85). -/
def execSreIzx (n : Byte) (s : State) : Result := dispatchIllegal 0x43#8 8 (indirectX n) opSre s

/-- 0x44 NOP $nn: Zero Page, base cost 3 (R232, R85). -/
def execNop44 (n : Byte) (s : State) : Result := dispatchIllegal 0x44#8 3 (zeroPage n) opNop s

/-- 0x47 SRE $nn: Zero Page, base cost 5 (R236, R85). -/
def execSreZp (n : Byte) (s : State) : Result := dispatchIllegal 0x47#8 5 (zeroPage n) opSre s

/-- 0x4B ALR #$nn: Immediate, base cost 2 (R243, R85). -/
def execAlr (n : Byte) (s : State) : Result := dispatchIllegal 0x4B#8 2 (immediate n) opAlr s

/-- 0x4F SRE $nnnn: Absolute, base cost 6 (R236, R85). -/
def execSreAbs (l h : Byte) (s : State) : Result := dispatchIllegal 0x4F#8 6 (absolute l h) opSre s

/-- 0x52 KIL: Implied, base cost 2 (R252, R85). -/
def execKil52 (s : State) : Result := dispatchIllegal 0x52#8 2 implied opKil s

/-- 0x53 SRE ($nn),Y: Indirect,Y const-cycle, base cost 8 (R236, R85). -/
def execSreIzy (n : Byte) (s : State) : Result := dispatchIllegal 0x53#8 8 (indirectYConst n) opSre s

/-- 0x54 NOP $nn,X: Zero Page,X, base cost 4 (R232, R85). -/
def execNop54 (n : Byte) (s : State) : Result := dispatchIllegal 0x54#8 4 (zeroPageX n) opNop s

/-- 0x57 SRE $nn,X: Zero Page,X, base cost 6 (R236, R85). -/
def execSreZpx (n : Byte) (s : State) : Result := dispatchIllegal 0x57#8 6 (zeroPageX n) opSre s

/-- 0x5A NOP: Implied, base cost 2 (R232, R85). -/
def execNop5A (s : State) : Result := dispatchIllegal 0x5A#8 2 implied opNop s

/-- 0x5B SRE $nnnn,Y: Absolute,Y const-cycle, base cost 7 (R236, R85). -/
def execSreAby (l h : Byte) (s : State) : Result := dispatchIllegal 0x5B#8 7 (absoluteYConst l h) opSre s

/-- 0x5C NOP $nnnn,X: Absolute,X, base cost 4 (R232, R85). -/
def execNop5C (l h : Byte) (s : State) : Result := dispatchIllegal 0x5C#8 4 (absoluteX l h) opNop s

/-- 0x5F SRE $nnnn,X: Absolute,X const-cycle, base cost 7 (R236, R85). -/
def execSreAbx (l h : Byte) (s : State) : Result := dispatchIllegal 0x5F#8 7 (absoluteXConst l h) opSre s

/-- 0x62 KIL: Implied, base cost 2 (R252, R85). -/
def execKil62 (s : State) : Result := dispatchIllegal 0x62#8 2 implied opKil s

/-- 0x63 RRA ($nn,X): Indirect,X, base cost 8 (R237, R85). -/
def execRraIzx (n : Byte) (s : State) : Result := dispatchIllegal 0x63#8 8 (indirectX n) opRra s

/-- 0x64 NOP $nn: Zero Page, base cost 3 (R232, R85). -/
def execNop64 (n : Byte) (s : State) : Result := dispatchIllegal 0x64#8 3 (zeroPage n) opNop s

/-- 0x67 RRA $nn: Zero Page, base cost 5 (R237, R85). -/
def execRraZp (n : Byte) (s : State) : Result := dispatchIllegal 0x67#8 5 (zeroPage n) opRra s

/-- 0x6B ARR #$nn: Immediate, base cost 2 (R244, R85). -/
def execArr (n : Byte) (s : State) : Result := dispatchIllegal 0x6B#8 2 (immediate n) opArr s

/-- 0x6F RRA $nnnn: Absolute, base cost 6 (R237, R85). -/
def execRraAbs (l h : Byte) (s : State) : Result := dispatchIllegal 0x6F#8 6 (absolute l h) opRra s

/-- 0x72 KIL: Implied, base cost 2 (R252, R85). -/
def execKil72 (s : State) : Result := dispatchIllegal 0x72#8 2 implied opKil s

/-- 0x73 RRA ($nn),Y: Indirect,Y const-cycle, base cost 8 (R237, R85). -/
def execRraIzy (n : Byte) (s : State) : Result := dispatchIllegal 0x73#8 8 (indirectYConst n) opRra s

/-- 0x74 NOP $nn,X: Zero Page,X, base cost 4 (R232, R85). -/
def execNop74 (n : Byte) (s : State) : Result := dispatchIllegal 0x74#8 4 (zeroPageX n) opNop s

/-- 0x77 RRA $nn,X: Zero Page,X, base cost 6 (R237, R85). -/
def execRraZpx (n : Byte) (s : State) : Result := dispatchIllegal 0x77#8 6 (zeroPageX n) opRra s

/-- 0x7A NOP: Implied, base cost 2 (R232, R85). -/
def execNop7A (s : State) : Result := dispatchIllegal 0x7A#8 2 implied opNop s

/-- 0x7B RRA $nnnn,Y: Absolute,Y const-cycle, base cost 7 (R237, R85). -/
def execRraAby (l h : Byte) (s : State) : Result := dispatchIllegal 0x7B#8 7 (absoluteYConst l h) opRra s

/-- 0x7C NOP $nnnn,X: Absolute,X, base cost 4 (R232, R85). -/
def execNop7C (l h : Byte) (s : State) : Result := dispatchIllegal 0x7C#8 4 (absoluteX l h) opNop s

/-- 0x7F RRA $nnnn,X: Absolute,X const-cycle, base cost 7 (R237, R85). -/
def execRraAbx (l h : Byte) (s : State) : Result := dispatchIllegal 0x7F#8 7 (absoluteXConst l h) opRra s

/-- 0x80 NOP #$nn: Immediate, base cost 2 (R232, R85). -/
def execNop80 (n : Byte) (s : State) : Result := dispatchIllegal 0x80#8 2 (immediate n) opNop s

/-- 0x82 NOP #$nn: Immediate, base cost 2 (R232, R85). -/
def execNop82 (n : Byte) (s : State) : Result := dispatchIllegal 0x82#8 2 (immediate n) opNop s

/-- 0x83 SAX ($nn,X): Indirect,X, base cost 6 (R238, R85). -/
def execSaxIzx (n : Byte) (s : State) : Result := dispatchIllegal 0x83#8 6 (indirectX n) opSax s

/-- 0x87 SAX $nn: Zero Page, base cost 3 (R238, R85). -/
def execSaxZp (n : Byte) (s : State) : Result := dispatchIllegal 0x87#8 3 (zeroPage n) opSax s

/-- 0x89 NOP #$nn: Immediate, base cost 2 (R232, R85). -/
def execNop89 (n : Byte) (s : State) : Result := dispatchIllegal 0x89#8 2 (immediate n) opNop s

/-- 0x8B XAA #$nn: Immediate, base cost 2 (R245, R85). -/
def execXaa (n : Byte) (s : State) : Result := dispatchIllegal 0x8B#8 2 (immediate n) opXaa s

/-- 0x8F SAX $nnnn: Absolute, base cost 4 (R238, R85). -/
def execSaxAbs (l h : Byte) (s : State) : Result := dispatchIllegal 0x8F#8 4 (absolute l h) opSax s

/-- 0x92 KIL: Implied, base cost 2 (R252, R85). -/
def execKil92 (s : State) : Result := dispatchIllegal 0x92#8 2 implied opKil s

/-- 0x93 AHX ($nn),Y: Indirect,Y const-cycle, base cost 6 (R247, R85). -/
def execAhxIzy (n : Byte) (s : State) : Result := dispatchIllegal 0x93#8 6 (indirectYConst n) opAhx s

/-- 0x97 SAX $nn,Y: Zero Page,Y, base cost 4 (R238, R85). -/
def execSaxZpy (n : Byte) (s : State) : Result := dispatchIllegal 0x97#8 4 (zeroPageY n) opSax s

/-- 0x9B TAS $nnnn,Y: Absolute,Y const-cycle, base cost 5 (R250, R85). -/
def execTas (l h : Byte) (s : State) : Result := dispatchIllegal 0x9B#8 5 (absoluteYConst l h) opTas s

/-- 0x9C SHY $nnnn,X: Absolute,X const-cycle, base cost 5 (R248, R85). -/
def execShy (l h : Byte) (s : State) : Result := dispatchIllegal 0x9C#8 5 (absoluteXConst l h) opShy s

/-- 0x9E SHX $nnnn,Y: Absolute,Y const-cycle, base cost 5 (R249, R85). -/
def execShx (l h : Byte) (s : State) : Result := dispatchIllegal 0x9E#8 5 (absoluteYConst l h) opShx s

/-- 0x9F AHX $nnnn,Y: Absolute,Y const-cycle, base cost 5 (R247, R85). -/
def execAhxAby (l h : Byte) (s : State) : Result := dispatchIllegal 0x9F#8 5 (absoluteYConst l h) opAhx s

/-- 0xA3 LAX ($nn,X): Indirect,X, base cost 6 (R239, R85). -/
def execLaxIzx (n : Byte) (s : State) : Result := dispatchIllegal 0xA3#8 6 (indirectX n) opLax s

/-- 0xA7 LAX $nn: Zero Page, base cost 3 (R239, R85). -/
def execLaxZp (n : Byte) (s : State) : Result := dispatchIllegal 0xA7#8 3 (zeroPage n) opLax s

/-- 0xAB LAX #$nn: Immediate, base cost 2 (R239, R85). -/
def execLaxImm (n : Byte) (s : State) : Result := dispatchIllegal 0xAB#8 2 (immediate n) opLax s

/-- 0xAF LAX $nnnn: Absolute, base cost 4 (R239, R85). -/
def execLaxAbs (l h : Byte) (s : State) : Result := dispatchIllegal 0xAF#8 4 (absolute l h) opLax s

/-- 0xB2 KIL: Implied, base cost 2 (R252, R85). -/
def execKilB2 (s : State) : Result := dispatchIllegal 0xB2#8 2 implied opKil s

/-- 0xB3 LAX ($nn),Y: Indirect,Y, base cost 5 (R239, R85). -/
def execLaxIzy (n : Byte) (s : State) : Result := dispatchIllegal 0xB3#8 5 (indirectY n) opLax s

/-- 0xB7 LAX $nn,Y: Zero Page,Y, base cost 4 (R239, R85). -/
def execLaxZpy (n : Byte) (s : State) : Result := dispatchIllegal 0xB7#8 4 (zeroPageY n) opLax s

/-- 0xBB LAS $nnnn,Y: Absolute,Y, base cost 4 (R251, R85). -/
def execLas (l h : Byte) (s : State) : Result := dispatchIllegal 0xBB#8 4 (absoluteY l h) opLas s

/-- 0xBF LAX $nnnn,Y: Absolute,Y, base cost 4 (R239, R85). -/
def execLaxAby (l h : Byte) (s : State) : Result := dispatchIllegal 0xBF#8 4 (absoluteY l h) opLax s

/-- 0xC2 NOP #$nn: Immediate, base cost 2 (R232, R85). -/
def execNopC2 (n : Byte) (s : State) : Result := dispatchIllegal 0xC2#8 2 (immediate n) opNop s

/-- 0xC3 DCP ($nn,X): Indirect,X, base cost 8 (R240, R85). -/
def execDcpIzx (n : Byte) (s : State) : Result := dispatchIllegal 0xC3#8 8 (indirectX n) opDcp s

/-- 0xC7 DCP $nn: Zero Page, base cost 5 (R240, R85). -/
def execDcpZp (n : Byte) (s : State) : Result := dispatchIllegal 0xC7#8 5 (zeroPage n) opDcp s

/-- 0xCB AXS #$nn: Immediate, base cost 2 (R246, R85). -/
def execAxs (n : Byte) (s : State) : Result := dispatchIllegal 0xCB#8 2 (immediate n) opAxs s

/-- 0xCF DCP $nnnn: Absolute, base cost 6 (R240, R85). -/
def execDcpAbs (l h : Byte) (s : State) : Result := dispatchIllegal 0xCF#8 6 (absolute l h) opDcp s

/-- 0xD2 KIL: Implied, base cost 2 (R252, R85). -/
def execKilD2 (s : State) : Result := dispatchIllegal 0xD2#8 2 implied opKil s

/-- 0xD3 DCP ($nn),Y: Indirect,Y const-cycle, base cost 8 (R240, R85). -/
def execDcpIzy (n : Byte) (s : State) : Result := dispatchIllegal 0xD3#8 8 (indirectYConst n) opDcp s

/-- 0xD4 NOP $nn,X: Zero Page,X, base cost 4 (R232, R85). -/
def execNopD4 (n : Byte) (s : State) : Result := dispatchIllegal 0xD4#8 4 (zeroPageX n) opNop s

/-- 0xD7 DCP $nn,X: Zero Page,X, base cost 6 (R240, R85). -/
def execDcpZpx (n : Byte) (s : State) : Result := dispatchIllegal 0xD7#8 6 (zeroPageX n) opDcp s

/-- 0xDA NOP: Implied, base cost 2 (R232, R85). -/
def execNopDA (s : State) : Result := dispatchIllegal 0xDA#8 2 implied opNop s

/-- 0xDB DCP $nnnn,Y: Absolute,Y const-cycle, base cost 7 (R240, R85). -/
def execDcpAby (l h : Byte) (s : State) : Result := dispatchIllegal 0xDB#8 7 (absoluteYConst l h) opDcp s

/-- 0xDC NOP $nnnn,X: Absolute,X, base cost 4 (R232, R85). -/
def execNopDC (l h : Byte) (s : State) : Result := dispatchIllegal 0xDC#8 4 (absoluteX l h) opNop s

/-- 0xDF DCP $nnnn,X: Absolute,X const-cycle, base cost 7 (R240, R85). -/
def execDcpAbx (l h : Byte) (s : State) : Result := dispatchIllegal 0xDF#8 7 (absoluteXConst l h) opDcp s

/-- 0xE2 NOP #$nn: Immediate, base cost 2 (R232, R85). -/
def execNopE2 (n : Byte) (s : State) : Result := dispatchIllegal 0xE2#8 2 (immediate n) opNop s

/-- 0xE3 ISC ($nn,X): Indirect,X, base cost 8 (R241, R85). -/
def execIscIzx (n : Byte) (s : State) : Result := dispatchIllegal 0xE3#8 8 (indirectX n) opIsc s

/-- 0xE7 ISC $nn: Zero Page, base cost 5 (R241, R85). -/
def execIscZp (n : Byte) (s : State) : Result := dispatchIllegal 0xE7#8 5 (zeroPage n) opIsc s

/-- 0xEA NOP: Implied, base cost 2 (R230, R85). -/
def execNop (s : State) : Result := dispatchLegal 0xEA#8 2 implied opNop s

/-- 0xEB SBC #$nn: Immediate, base cost 2 (R233, R85). -/
def execSbcEB (n : Byte) (s : State) : Result := dispatchIllegal 0xEB#8 2 (immediate n) opSbc s

/-- 0xEF ISC $nnnn: Absolute, base cost 6 (R241, R85). -/
def execIscAbs (l h : Byte) (s : State) : Result := dispatchIllegal 0xEF#8 6 (absolute l h) opIsc s

/-- 0xF2 KIL: Implied, base cost 2 (R252, R85). -/
def execKilF2 (s : State) : Result := dispatchIllegal 0xF2#8 2 implied opKil s

/-- 0xF3 ISC ($nn),Y: Indirect,Y const-cycle, base cost 8 (R241, R85). -/
def execIscIzy (n : Byte) (s : State) : Result := dispatchIllegal 0xF3#8 8 (indirectYConst n) opIsc s

/-- 0xF4 NOP $nn,X: Zero Page,X, base cost 4 (R232, R85). -/
def execNopF4 (n : Byte) (s : State) : Result := dispatchIllegal 0xF4#8 4 (zeroPageX n) opNop s

/-- 0xF7 ISC $nn,X: Zero Page,X, base cost 6 (R241, R85). -/
def execIscZpx (n : Byte) (s : State) : Result := dispatchIllegal 0xF7#8 6 (zeroPageX n) opIsc s

/-- 0xFA NOP: Implied, base cost 2 (R232, R85). -/
def execNopFA (s : State) : Result := dispatchIllegal 0xFA#8 2 implied opNop s

/-- 0xFB ISC $nnnn,Y: Absolute,Y const-cycle, base cost 7 (R241, R85). -/
def execIscAby (l h : Byte) (s : State) : Result := dispatchIllegal 0xFB#8 7 (absoluteYConst l h) opIsc s

/-- 0xFC NOP $nnnn,X: Absolute,X, base cost 4 (R232, R85). -/
def execNopFC (l h : Byte) (s : State) : Result := dispatchIllegal 0xFC#8 4 (absoluteX l h) opNop s

/-- 0xFF ISC $nnnn,X: Absolute,X const-cycle, base cost 7 (R241, R85). -/
def execIscAbx (l h : Byte) (s : State) : Result := dispatchIllegal 0xFF#8 7 (absoluteXConst l h) opIsc s

end Sys2Proof.Machine
end

