-- ==== Sys2Proof/Machine/Stack.lean ====
section
/-! DEFINITION. PHA, PHP, PLA, PLP, JSR, RTS, JMP, BRK, RTI (46_stack_control.md R173 to R181). -/

namespace Sys2Proof.Machine

/-- PHA (R173). -/
def opPha (_ : Unit) (s : State) : State := push s.a s

/-- PHP (R174): both Break bits set in the pushed copy only. -/
def opPhp (_ : Unit) (s : State) : State := push (s.p ||| 0x30#8) s

/-- PLA (R175). -/
def opPla (_ : Unit) (s : State) : State :=
  let v := pop s
  setAZN v.1 v.2

/-- PLP (R176). -/
def opPlp (_ : Unit) (s : State) : State :=
  let v := pop s
  { v.2 with p := pulledStatus v.1 v.2.p }

/-- JSR (R177): PC is already past the instruction; the address of its last byte is pushed. -/
def opJsr (o : MemOperand) (s : State) : State :=
  let t := push16 (s.pc - 1#16) s
  { t with pc := o.ea }

/-- RTS (R178). -/
def opRts (_ : Unit) (s : State) : State :=
  let r := pop16 s
  { r.2 with pc := r.1 + 1#16 }

/-- JMP (R181). -/
def opJmp (o : MemOperand) (s : State) : State := { s with pc := o.ea }

/-- BRK (R179): Break set live, then the entry shared with IRQ and NMI, returning past the padding byte. -/
def opBrk (_ : Unit) (s : State) : State :=
  let p := setFlag .brk true s.p
  enterInterrupt (s.pc + 1#16) p irqVector { s with p := p }

/-- RTI (R180). -/
def opRti (_ : Unit) (s : State) : State := returnFromInterrupt s

/-- 0x00 BRK: Implied, base cost 7 (R179, R85). -/
def execBrk (s : State) : Result := dispatchLegal 0x00#8 7 implied opBrk s

/-- 0x08 PHP: Implied, base cost 3 (R174, R85). -/
def execPhp (s : State) : Result := dispatchLegal 0x08#8 3 implied opPhp s

/-- 0x20 JSR $nnnn: Absolute, base cost 6 (R177, R85). -/
def execJsr (l h : Byte) (s : State) : Result := dispatchLegal 0x20#8 6 (absolute l h) opJsr s

/-- 0x28 PLP: Implied, base cost 4 (R176, R85). -/
def execPlp (s : State) : Result := dispatchLegal 0x28#8 4 implied opPlp s

/-- 0x40 RTI: Implied, base cost 6 (R180, R85). -/
def execRti (s : State) : Result := dispatchLegal 0x40#8 6 implied opRti s

/-- 0x48 PHA: Implied, base cost 3 (R173, R85). -/
def execPha (s : State) : Result := dispatchLegal 0x48#8 3 implied opPha s

/-- 0x4C JMP $nnnn: Absolute, base cost 3 (R181, R85). -/
def execJmpAbs (l h : Byte) (s : State) : Result := dispatchLegal 0x4C#8 3 (absolute l h) opJmp s

/-- 0x60 RTS: Implied, base cost 6 (R178, R85). -/
def execRts (s : State) : Result := dispatchLegal 0x60#8 6 implied opRts s

/-- 0x68 PLA: Implied, base cost 4 (R175, R85). -/
def execPla (s : State) : Result := dispatchLegal 0x68#8 4 implied opPla s

/-- 0x6C JMP ($nnnn): Indirect, base cost 5 (R181, R85). -/
def execJmpInd (l h : Byte) (s : State) : Result := dispatchLegal 0x6C#8 5 (indirect l h) opJmp s

end Sys2Proof.Machine
end

