-- ==== Sys2Proof/Machine/Dispatch.lean ====
section
/-! DEFINITION. `exec`: one arm per constructor of `Instr`, each one call of its meaning. -/

namespace Sys2Proof.Machine

/-- Execute one instruction: the whole of `Dispatch()` (50_execution_engine.md R272) for the instruction `i` that
stands at PC, opcode fetch included. -/
def exec (i : Instr) (s : State) : Host.Outcome State Fault Refusal :=
  match i with
  | .brk => Sys2Proof.Machine.execBrk s
  | .oraIzx n => Sys2Proof.Machine.execOraIzx n s
  | .kil02 => Sys2Proof.Machine.execKil02 s
  | .sloIzx n => Sys2Proof.Machine.execSloIzx n s
  | .nop04 n => Sys2Proof.Machine.execNop04 n s
  | .oraZp n => Sys2Proof.Machine.execOraZp n s
  | .aslZp n => Sys2Proof.Machine.execAslZp n s
  | .sloZp n => Sys2Proof.Machine.execSloZp n s
  | .php => Sys2Proof.Machine.execPhp s
  | .oraImm n => Sys2Proof.Machine.execOraImm n s
  | .aslAcc => Sys2Proof.Machine.execAslAcc s
  | .anc0B n => Sys2Proof.Machine.execAnc0B n s
  | .nop0C l h => Sys2Proof.Machine.execNop0C l h s
  | .oraAbs l h => Sys2Proof.Machine.execOraAbs l h s
  | .aslAbs l h => Sys2Proof.Machine.execAslAbs l h s
  | .sloAbs l h => Sys2Proof.Machine.execSloAbs l h s
  | .bpl n => Sys2Proof.Machine.execBpl n s
  | .oraIzy n => Sys2Proof.Machine.execOraIzy n s
  | .kil12 => Sys2Proof.Machine.execKil12 s
  | .sloIzy n => Sys2Proof.Machine.execSloIzy n s
  | .nop14 n => Sys2Proof.Machine.execNop14 n s
  | .oraZpx n => Sys2Proof.Machine.execOraZpx n s
  | .aslZpx n => Sys2Proof.Machine.execAslZpx n s
  | .sloZpx n => Sys2Proof.Machine.execSloZpx n s
  | .clc => Sys2Proof.Machine.execClc s
  | .oraAby l h => Sys2Proof.Machine.execOraAby l h s
  | .nop1A => Sys2Proof.Machine.execNop1A s
  | .sloAby l h => Sys2Proof.Machine.execSloAby l h s
  | .nop1C l h => Sys2Proof.Machine.execNop1C l h s
  | .oraAbx l h => Sys2Proof.Machine.execOraAbx l h s
  | .aslAbx l h => Sys2Proof.Machine.execAslAbx l h s
  | .sloAbx l h => Sys2Proof.Machine.execSloAbx l h s
  | .jsr l h => Sys2Proof.Machine.execJsr l h s
  | .andIzx n => Sys2Proof.Machine.execAndIzx n s
  | .kil22 => Sys2Proof.Machine.execKil22 s
  | .rlaIzx n => Sys2Proof.Machine.execRlaIzx n s
  | .bitZp n => Sys2Proof.Machine.execBitZp n s
  | .andZp n => Sys2Proof.Machine.execAndZp n s
  | .rolZp n => Sys2Proof.Machine.execRolZp n s
  | .rlaZp n => Sys2Proof.Machine.execRlaZp n s
  | .plp => Sys2Proof.Machine.execPlp s
  | .andImm n => Sys2Proof.Machine.execAndImm n s
  | .rolAcc => Sys2Proof.Machine.execRolAcc s
  | .anc2B n => Sys2Proof.Machine.execAnc2B n s
  | .bitAbs l h => Sys2Proof.Machine.execBitAbs l h s
  | .andAbs l h => Sys2Proof.Machine.execAndAbs l h s
  | .rolAbs l h => Sys2Proof.Machine.execRolAbs l h s
  | .rlaAbs l h => Sys2Proof.Machine.execRlaAbs l h s
  | .bmi n => Sys2Proof.Machine.execBmi n s
  | .andIzy n => Sys2Proof.Machine.execAndIzy n s
  | .kil32 => Sys2Proof.Machine.execKil32 s
  | .rlaIzy n => Sys2Proof.Machine.execRlaIzy n s
  | .nop34 n => Sys2Proof.Machine.execNop34 n s
  | .andZpx n => Sys2Proof.Machine.execAndZpx n s
  | .rolZpx n => Sys2Proof.Machine.execRolZpx n s
  | .rlaZpx n => Sys2Proof.Machine.execRlaZpx n s
  | .sec => Sys2Proof.Machine.execSec s
  | .andAby l h => Sys2Proof.Machine.execAndAby l h s
  | .nop3A => Sys2Proof.Machine.execNop3A s
  | .rlaAby l h => Sys2Proof.Machine.execRlaAby l h s
  | .nop3C l h => Sys2Proof.Machine.execNop3C l h s
  | .andAbx l h => Sys2Proof.Machine.execAndAbx l h s
  | .rolAbx l h => Sys2Proof.Machine.execRolAbx l h s
  | .rlaAbx l h => Sys2Proof.Machine.execRlaAbx l h s
  | .rti => Sys2Proof.Machine.execRti s
  | .eorIzx n => Sys2Proof.Machine.execEorIzx n s
  | .kil42 => Sys2Proof.Machine.execKil42 s
  | .sreIzx n => Sys2Proof.Machine.execSreIzx n s
  | .nop44 n => Sys2Proof.Machine.execNop44 n s
  | .eorZp n => Sys2Proof.Machine.execEorZp n s
  | .lsrZp n => Sys2Proof.Machine.execLsrZp n s
  | .sreZp n => Sys2Proof.Machine.execSreZp n s
  | .pha => Sys2Proof.Machine.execPha s
  | .eorImm n => Sys2Proof.Machine.execEorImm n s
  | .lsrAcc => Sys2Proof.Machine.execLsrAcc s
  | .alr n => Sys2Proof.Machine.execAlr n s
  | .jmpAbs l h => Sys2Proof.Machine.execJmpAbs l h s
  | .eorAbs l h => Sys2Proof.Machine.execEorAbs l h s
  | .lsrAbs l h => Sys2Proof.Machine.execLsrAbs l h s
  | .sreAbs l h => Sys2Proof.Machine.execSreAbs l h s
  | .bvc n => Sys2Proof.Machine.execBvc n s
  | .eorIzy n => Sys2Proof.Machine.execEorIzy n s
  | .kil52 => Sys2Proof.Machine.execKil52 s
  | .sreIzy n => Sys2Proof.Machine.execSreIzy n s
  | .nop54 n => Sys2Proof.Machine.execNop54 n s
  | .eorZpx n => Sys2Proof.Machine.execEorZpx n s
  | .lsrZpx n => Sys2Proof.Machine.execLsrZpx n s
  | .sreZpx n => Sys2Proof.Machine.execSreZpx n s
  | .cli => Sys2Proof.Machine.execCli s
  | .eorAby l h => Sys2Proof.Machine.execEorAby l h s
  | .nop5A => Sys2Proof.Machine.execNop5A s
  | .sreAby l h => Sys2Proof.Machine.execSreAby l h s
  | .nop5C l h => Sys2Proof.Machine.execNop5C l h s
  | .eorAbx l h => Sys2Proof.Machine.execEorAbx l h s
  | .lsrAbx l h => Sys2Proof.Machine.execLsrAbx l h s
  | .sreAbx l h => Sys2Proof.Machine.execSreAbx l h s
  | .rts => Sys2Proof.Machine.execRts s
  | .adcIzx n => Sys2Proof.Machine.execAdcIzx n s
  | .kil62 => Sys2Proof.Machine.execKil62 s
  | .rraIzx n => Sys2Proof.Machine.execRraIzx n s
  | .nop64 n => Sys2Proof.Machine.execNop64 n s
  | .adcZp n => Sys2Proof.Machine.execAdcZp n s
  | .rorZp n => Sys2Proof.Machine.execRorZp n s
  | .rraZp n => Sys2Proof.Machine.execRraZp n s
  | .pla => Sys2Proof.Machine.execPla s
  | .adcImm n => Sys2Proof.Machine.execAdcImm n s
  | .rorAcc => Sys2Proof.Machine.execRorAcc s
  | .arr n => Sys2Proof.Machine.execArr n s
  | .jmpInd l h => Sys2Proof.Machine.execJmpInd l h s
  | .adcAbs l h => Sys2Proof.Machine.execAdcAbs l h s
  | .rorAbs l h => Sys2Proof.Machine.execRorAbs l h s
  | .rraAbs l h => Sys2Proof.Machine.execRraAbs l h s
  | .bvs n => Sys2Proof.Machine.execBvs n s
  | .adcIzy n => Sys2Proof.Machine.execAdcIzy n s
  | .kil72 => Sys2Proof.Machine.execKil72 s
  | .rraIzy n => Sys2Proof.Machine.execRraIzy n s
  | .nop74 n => Sys2Proof.Machine.execNop74 n s
  | .adcZpx n => Sys2Proof.Machine.execAdcZpx n s
  | .rorZpx n => Sys2Proof.Machine.execRorZpx n s
  | .rraZpx n => Sys2Proof.Machine.execRraZpx n s
  | .sei => Sys2Proof.Machine.execSei s
  | .adcAby l h => Sys2Proof.Machine.execAdcAby l h s
  | .nop7A => Sys2Proof.Machine.execNop7A s
  | .rraAby l h => Sys2Proof.Machine.execRraAby l h s
  | .nop7C l h => Sys2Proof.Machine.execNop7C l h s
  | .adcAbx l h => Sys2Proof.Machine.execAdcAbx l h s
  | .rorAbx l h => Sys2Proof.Machine.execRorAbx l h s
  | .rraAbx l h => Sys2Proof.Machine.execRraAbx l h s
  | .nop80 n => Sys2Proof.Machine.execNop80 n s
  | .staIzx n => Sys2Proof.Machine.execStaIzx n s
  | .nop82 n => Sys2Proof.Machine.execNop82 n s
  | .saxIzx n => Sys2Proof.Machine.execSaxIzx n s
  | .styZp n => Sys2Proof.Machine.execStyZp n s
  | .staZp n => Sys2Proof.Machine.execStaZp n s
  | .stxZp n => Sys2Proof.Machine.execStxZp n s
  | .saxZp n => Sys2Proof.Machine.execSaxZp n s
  | .dey => Sys2Proof.Machine.execDey s
  | .nop89 n => Sys2Proof.Machine.execNop89 n s
  | .txa => Sys2Proof.Machine.execTxa s
  | .xaa n => Sys2Proof.Machine.execXaa n s
  | .styAbs l h => Sys2Proof.Machine.execStyAbs l h s
  | .staAbs l h => Sys2Proof.Machine.execStaAbs l h s
  | .stxAbs l h => Sys2Proof.Machine.execStxAbs l h s
  | .saxAbs l h => Sys2Proof.Machine.execSaxAbs l h s
  | .bcc n => Sys2Proof.Machine.execBcc n s
  | .staIzy n => Sys2Proof.Machine.execStaIzy n s
  | .kil92 => Sys2Proof.Machine.execKil92 s
  | .ahxIzy n => Sys2Proof.Machine.execAhxIzy n s
  | .styZpx n => Sys2Proof.Machine.execStyZpx n s
  | .staZpx n => Sys2Proof.Machine.execStaZpx n s
  | .stxZpy n => Sys2Proof.Machine.execStxZpy n s
  | .saxZpy n => Sys2Proof.Machine.execSaxZpy n s
  | .tya => Sys2Proof.Machine.execTya s
  | .staAby l h => Sys2Proof.Machine.execStaAby l h s
  | .txs => Sys2Proof.Machine.execTxs s
  | .tas l h => Sys2Proof.Machine.execTas l h s
  | .shy l h => Sys2Proof.Machine.execShy l h s
  | .staAbx l h => Sys2Proof.Machine.execStaAbx l h s
  | .shx l h => Sys2Proof.Machine.execShx l h s
  | .ahxAby l h => Sys2Proof.Machine.execAhxAby l h s
  | .ldyImm n => Sys2Proof.Machine.execLdyImm n s
  | .ldaIzx n => Sys2Proof.Machine.execLdaIzx n s
  | .ldxImm n => Sys2Proof.Machine.execLdxImm n s
  | .laxIzx n => Sys2Proof.Machine.execLaxIzx n s
  | .ldyZp n => Sys2Proof.Machine.execLdyZp n s
  | .ldaZp n => Sys2Proof.Machine.execLdaZp n s
  | .ldxZp n => Sys2Proof.Machine.execLdxZp n s
  | .laxZp n => Sys2Proof.Machine.execLaxZp n s
  | .tay => Sys2Proof.Machine.execTay s
  | .ldaImm n => Sys2Proof.Machine.execLdaImm n s
  | .tax => Sys2Proof.Machine.execTax s
  | .laxImm n => Sys2Proof.Machine.execLaxImm n s
  | .ldyAbs l h => Sys2Proof.Machine.execLdyAbs l h s
  | .ldaAbs l h => Sys2Proof.Machine.execLdaAbs l h s
  | .ldxAbs l h => Sys2Proof.Machine.execLdxAbs l h s
  | .laxAbs l h => Sys2Proof.Machine.execLaxAbs l h s
  | .bcs n => Sys2Proof.Machine.execBcs n s
  | .ldaIzy n => Sys2Proof.Machine.execLdaIzy n s
  | .kilB2 => Sys2Proof.Machine.execKilB2 s
  | .laxIzy n => Sys2Proof.Machine.execLaxIzy n s
  | .ldyZpx n => Sys2Proof.Machine.execLdyZpx n s
  | .ldaZpx n => Sys2Proof.Machine.execLdaZpx n s
  | .ldxZpy n => Sys2Proof.Machine.execLdxZpy n s
  | .laxZpy n => Sys2Proof.Machine.execLaxZpy n s
  | .clv => Sys2Proof.Machine.execClv s
  | .ldaAby l h => Sys2Proof.Machine.execLdaAby l h s
  | .tsx => Sys2Proof.Machine.execTsx s
  | .las l h => Sys2Proof.Machine.execLas l h s
  | .ldyAbx l h => Sys2Proof.Machine.execLdyAbx l h s
  | .ldaAbx l h => Sys2Proof.Machine.execLdaAbx l h s
  | .ldxAby l h => Sys2Proof.Machine.execLdxAby l h s
  | .laxAby l h => Sys2Proof.Machine.execLaxAby l h s
  | .cpyImm n => Sys2Proof.Machine.execCpyImm n s
  | .cmpIzx n => Sys2Proof.Machine.execCmpIzx n s
  | .nopC2 n => Sys2Proof.Machine.execNopC2 n s
  | .dcpIzx n => Sys2Proof.Machine.execDcpIzx n s
  | .cpyZp n => Sys2Proof.Machine.execCpyZp n s
  | .cmpZp n => Sys2Proof.Machine.execCmpZp n s
  | .decZp n => Sys2Proof.Machine.execDecZp n s
  | .dcpZp n => Sys2Proof.Machine.execDcpZp n s
  | .iny => Sys2Proof.Machine.execIny s
  | .cmpImm n => Sys2Proof.Machine.execCmpImm n s
  | .dex => Sys2Proof.Machine.execDex s
  | .axs n => Sys2Proof.Machine.execAxs n s
  | .cpyAbs l h => Sys2Proof.Machine.execCpyAbs l h s
  | .cmpAbs l h => Sys2Proof.Machine.execCmpAbs l h s
  | .decAbs l h => Sys2Proof.Machine.execDecAbs l h s
  | .dcpAbs l h => Sys2Proof.Machine.execDcpAbs l h s
  | .bne n => Sys2Proof.Machine.execBne n s
  | .cmpIzy n => Sys2Proof.Machine.execCmpIzy n s
  | .kilD2 => Sys2Proof.Machine.execKilD2 s
  | .dcpIzy n => Sys2Proof.Machine.execDcpIzy n s
  | .nopD4 n => Sys2Proof.Machine.execNopD4 n s
  | .cmpZpx n => Sys2Proof.Machine.execCmpZpx n s
  | .decZpx n => Sys2Proof.Machine.execDecZpx n s
  | .dcpZpx n => Sys2Proof.Machine.execDcpZpx n s
  | .cld => Sys2Proof.Machine.execCld s
  | .cmpAby l h => Sys2Proof.Machine.execCmpAby l h s
  | .nopDA => Sys2Proof.Machine.execNopDA s
  | .dcpAby l h => Sys2Proof.Machine.execDcpAby l h s
  | .nopDC l h => Sys2Proof.Machine.execNopDC l h s
  | .cmpAbx l h => Sys2Proof.Machine.execCmpAbx l h s
  | .decAbx l h => Sys2Proof.Machine.execDecAbx l h s
  | .dcpAbx l h => Sys2Proof.Machine.execDcpAbx l h s
  | .cpxImm n => Sys2Proof.Machine.execCpxImm n s
  | .sbcIzx n => Sys2Proof.Machine.execSbcIzx n s
  | .nopE2 n => Sys2Proof.Machine.execNopE2 n s
  | .iscIzx n => Sys2Proof.Machine.execIscIzx n s
  | .cpxZp n => Sys2Proof.Machine.execCpxZp n s
  | .sbcZp n => Sys2Proof.Machine.execSbcZp n s
  | .incZp n => Sys2Proof.Machine.execIncZp n s
  | .iscZp n => Sys2Proof.Machine.execIscZp n s
  | .inx => Sys2Proof.Machine.execInx s
  | .sbcImm n => Sys2Proof.Machine.execSbcImm n s
  | .nop => Sys2Proof.Machine.execNop s
  | .sbcEB n => Sys2Proof.Machine.execSbcEB n s
  | .cpxAbs l h => Sys2Proof.Machine.execCpxAbs l h s
  | .sbcAbs l h => Sys2Proof.Machine.execSbcAbs l h s
  | .incAbs l h => Sys2Proof.Machine.execIncAbs l h s
  | .iscAbs l h => Sys2Proof.Machine.execIscAbs l h s
  | .beq n => Sys2Proof.Machine.execBeq n s
  | .sbcIzy n => Sys2Proof.Machine.execSbcIzy n s
  | .kilF2 => Sys2Proof.Machine.execKilF2 s
  | .iscIzy n => Sys2Proof.Machine.execIscIzy n s
  | .nopF4 n => Sys2Proof.Machine.execNopF4 n s
  | .sbcZpx n => Sys2Proof.Machine.execSbcZpx n s
  | .incZpx n => Sys2Proof.Machine.execIncZpx n s
  | .iscZpx n => Sys2Proof.Machine.execIscZpx n s
  | .sed => Sys2Proof.Machine.execSed s
  | .sbcAby l h => Sys2Proof.Machine.execSbcAby l h s
  | .nopFA => Sys2Proof.Machine.execNopFA s
  | .iscAby l h => Sys2Proof.Machine.execIscAby l h s
  | .nopFC l h => Sys2Proof.Machine.execNopFC l h s
  | .sbcAbx l h => Sys2Proof.Machine.execSbcAbx l h s
  | .incAbx l h => Sys2Proof.Machine.execIncAbx l h s
  | .iscAbx l h => Sys2Proof.Machine.execIscAbx l h s

end Sys2Proof.Machine
end

