-- ==== Sys2Proof/Machine/Step.lean ====
section
/-! DEFINITION. One step of the machine: one tick, `Tick()` (50_execution_engine.md R276; log 10). -/

namespace Sys2Proof.Machine

/-- What a tick does after a dispatch: a machine that has just halted ends the tick at once (R252, R276). -/
def afterDispatch : Result → Result
  | .next t => .next (if t.halted then t else endTick t)
  | .fault f => .fault f
  | .refused r => .refused r

/-- A tick at an instruction boundary: the interrupt check, then service or dispatch (60_exceptions.md R294). -/
def boundaryTick (s : State) : Result :=
  if s.pendingNmi then .next (endTick (service nmiVector 8 { s with pendingNmi := false }))
  else if s.pendingIrq && !getFlag .interruptDisable s.p then
    .next (endTick (service irqVector 7 { s with pendingIrq := false }))
  else afterDispatch (exec (fetchedInstr s) s)

/-- `Tick()` (R276). A halted tick changes nothing (R271, log 6); a tick entered with `remaining_cycles != 0` only
counts down. -/
def step (s : State) : Host.Outcome State Fault Refusal :=
  if s.halted then .next s
  else if s.remainingCycles = 0x00#8 then boundaryTick s
  else .next (endTick s)

/-- The state with a table word placed as the next instruction to run (log 16): its bytes stored at PC and the two
addresses after it, at an instruction boundary with nothing pending. -/
def State.withFetchWord (s : State) (nbits w : Nat) : State :=
  let b := tableWordBytes nbits w
  let m0 := s.mem.write s.pc.toNat (b.getD 0 0x00#8)
  let m1 := m0.write (s.pc + 1#16).toNat (b.getD 1 0x00#8)
  { s with
    mem := m1.write (s.pc + 2#16).toNat (b.getD 2 0x00#8)
    remainingCycles := 0x00#8
    pendingNmi := false
    pendingIrq := false
    halted := false }

end Sys2Proof.Machine
end

