-- ==== Sys2Proof/Machine/Engine.lean ====
section
/-! DEFINITION. What the outside world can do with the block (50_execution_engine.md R270): its input events as one
type, and the derived operation `execute_instruction` (R278). -/

namespace Sys2Proof.Machine

/-- The input events of the block after power-on (R270): "events are serialised, one at a time, each complete before
the next". -/
inductive Input where
  | tick
  | irqRequest
  | nmiRequest
  | reset
  | loadPc (v : Addr)
deriving DecidableEq, Repr

/-- The machine after one input event. -/
def advance (e : Input) (s : State) : Result :=
  match e with
  | .tick => step s
  | .irqRequest => .next (irqRequest s)
  | .nmiRequest => .next (nmiRequest s)
  | .reset => .next (resetEvent s)
  | .loadPc v => .next (setProgramCounter v s)

/-- The machine after a list of input events, the first of the list first; it stops at a fault or a refusal. -/
def runInputs : List Input → State → Result
  | [], s => .next s
  | e :: es, s =>
    match advance e s with
    | .next t => runInputs es t
    | .fault f => .fault f
    | .refused r => .refused r

/-- `while remaining_cycles != 0 and not halted: Tick()` (R278), at most `fuel` ticks. -/
def drain : Nat → State → Result
  | 0, s => .next s
  | fuel + 1, s =>
    if s.remainingCycles = 0x00#8 then .next s
    else if s.halted then .next s
    else
      match step s with
      | .next t => drain fuel t
      | .fault f => .fault f
      | .refused r => .refused r

/-- `execute_instruction()` (R278): one unconditional tick, then ticks until a boundary. An 8-bit counter reaches 0
within 255 ticks, so the fuel never runs out (log 13). -/
def executeInstruction (s : State) : Result :=
  match step s with
  | .next t => drain 256 t
  | .fault f => .fault f
  | .refused r => .refused r

end Sys2Proof.Machine
end

