-- ==== Sys2Proof/Safety.lean ====
section
/-! DEFINITION. What claims call a safe run, the invariant of the machine, and the words in which claims speak of
the rows of the dispatch table. -/

namespace Sys2Proof.Machine

/-- The outcome is a next state: neither a fault nor a refusal. -/
def Completes (r : Result) : Prop := ∃ t, r = .next t

/-- The invariant every input event keeps: memory in canonical form; bit 5 of P always set (10_state.md R28);
`remaining_cycles` at most 8 (R32); a halted machine is one whose gate is on and whose counter is 0 (R40, R252). -/
structure Inv (s : State) : Prop where
  memory : s.mem.wf = true
  bit5 : s.p.getLsbD 5 = true
  cycles : s.remainingCycles.toNat ≤ 8
  halt : s.halted = true → s.straps.illegalOpcodesEnabled = true ∧ s.remainingCycles = 0x00#8

/-- Terminal: every tick leaves the state as it is (R40, R271). -/
def Terminal (s : State) : Prop := step s = .next s

/-- One row of 30_encoding.md R85 as a claim names it: opcode byte, addressing mode, base cycles. -/
structure Form where
  opcode : Byte
  mode : AddrMode
  base : Nat
deriving DecidableEq, Repr

/-- One row of R85 whose mode is Implied or Relative: opcode byte, base cycles. -/
structure BareForm where
  opcode : Byte
  base : Nat
deriving DecidableEq, Repr

/-- What the row's resolver answers, entered after the opcode fetch (40_addressing_modes.md R100). -/
def Form.resolved (f : Form) (i : Instr) (s : State) : Resolved MemOperand :=
  resolve f.mode i.byte1 i.byte2 (fetchOpcode f.opcode s)

/-- No premise. -/
def anyState (_ : State) : Prop := True

/-- The gate of 49_nop_illegal.md R231 is on. -/
def gateOn (s : State) : Prop := s.straps.illegalOpcodesEnabled = true

/-- Every instruction of the rows `forms` completes in every running state that meets `premise`: the next state is
`effect` of the resolved operand, on the state the resolver leaves, with base and extra cycles loaded. -/
def RunsMemory (forms : List Form) (premise : State → Prop) (effect : MemOperand → State → State) : Prop :=
  ∀ f ∈ forms, ∀ (i : Instr) (s : State), i.row.opcode = f.opcode → s.halted = false → premise s →
    exec i s = .next
      (addCycles (f.base + (f.resolved i s).extra) (effect (f.resolved i s).opd (f.resolved i s).state))

/-- The same for rows of mode Implied: `effect` is applied to the state after the opcode fetch. -/
def RunsImplied (forms : List BareForm) (premise : State → Prop) (effect : State → State) : Prop :=
  ∀ f ∈ forms, ∀ (i : Instr) (s : State), i.row.opcode = f.opcode → s.halted = false → premise s →
    exec i s = .next (addCycles f.base (effect (fetchOpcode f.opcode s)))

/-- The seven modes of the read-modify-write composites, at their offsets from the base `b` of
the table (49_nop_illegal.md section 2). -/
def compositeForms (b : Byte) : List Form :=
  [⟨b + 0x03#8, .indirectX, 8⟩, ⟨b + 0x07#8, .zeroPage, 5⟩, ⟨b + 0x0F#8, .absolute, 6⟩,
   ⟨b + 0x13#8, .indirectYConst, 8⟩, ⟨b + 0x17#8, .zeroPageX, 6⟩, ⟨b + 0x1B#8, .absoluteYConst, 7⟩,
   ⟨b + 0x1F#8, .absoluteXConst, 7⟩]

/-- The byte of the operand, one bus read, and the state after it. -/
def afterRead (o : MemOperand) (s : State) : State := { s with trace := .read o.ea (o.byte s) :: s.trace }

/-- The state after one bus write of `v` at the operand's address. -/
def afterWrite (o : MemOperand) (v : Byte) (s : State) : State :=
  { s with mem := s.mem.write o.ea.toNat v, trace := .write o.ea v :: s.trace }

/-- Memory after the three pushes of an entry: the high byte of `w`, its low byte, then `b`, each address wrapping
inside the stack page (46_stack_control.md R170, R172). -/
def entryMemory (w : Addr) (b : Byte) (s : State) : Memory :=
  ((s.mem.write (stackAddr s.sp).toNat (highByte w)).write (stackAddr (s.sp - 1#8)).toNat (lowByte w)).write
    (stackAddr (s.sp - 2#8)).toNat b

/-- The state after an entry through `vector` that stacked `w` and `b` and left `p` in P (60_exceptions.md R296): five
bus accesses, SP three lower, PC the word at the vector. -/
def entered (w : Addr) (b p : Byte) (vector : Addr) (s : State) : State :=
  let m := entryMemory w b s
  let lo := m.read vector.toNat
  let hi := m.read (vector + 1#16).toNat
  { s with
    sp := s.sp - 3#8
    p := p
    pc := word hi lo
    mem := m
    trace := [.read (vector + 1#16) hi, .read vector lo, .write (stackAddr (s.sp - 2#8)) b,
        .write (stackAddr (s.sp - 1#8)) (lowByte w), .write (stackAddr s.sp) (highByte w)] ++ s.trace }

/-- The branch rows: what the row at `op` does when `cond` of P decides (44_branch.md R150). `b` is the address of the
next instruction, the target is `b` plus the signed offset modulo 65536, and the cycles loaded are 2, 3 or 4. -/
def RunsBranch (op : Byte) (cond : Byte → Bool) : Prop :=
  ∀ (i : Instr) (s : State), i.row.opcode = op → s.halted = false →
    let b := s.pc + 2#16
    let target := BitVec.ofInt 16 (b.toNat + i.byte1.toInt)
    let reads := .read (s.pc + 1#16) i.byte1 :: .read s.pc op :: s.trace
    exec i s = .next
      (if cond s.p then
        { s with
          pc := target
          remainingCycles := s.remainingCycles + (if highByte b = highByte target then 3#8 else 4#8)
          trace := reads }
      else { s with pc := b, remainingCycles := s.remainingCycles + 2#8, trace := reads })

/-- Bus reads of a resolver (20_memory.md R59). -/
def resolverReads : Mode → Nat
  | .implied => 0
  | .relative => 1
  | .addr .immediate => 0
  | .addr .zeroPage | .addr .zeroPageX | .addr .zeroPageY => 1
  | .addr .absolute | .addr .absoluteX | .addr .absoluteXConst | .addr .absoluteY | .addr .absoluteYConst => 2
  | .addr .indirectX | .addr .indirectY | .addr .indirectYConst => 3
  | .addr .indirect => 4

/-- The two kinds of bus access (20_memory.md R51, R52). -/
inductive AccessKind where
  | read
  | write
deriving DecidableEq, Repr

/-- The bus access a port event is, with its address; the diagnostic notice is none. -/
def PortEvent.access : PortEvent → Option (AccessKind × Addr)
  | .read a _ => some (.read, a)
  | .write a _ => some (.write, a)
  | .diagnostic _ => none

/-- The byte the newest write at `a` among `es` stored (newest first), if there is one. -/
def lastWrite (a : Addr) : List PortEvent → Option Byte
  | [] => none
  | .write b v :: es => if b = a then some v else lastWrite a es
  | .read _ _ :: es => lastWrite a es
  | .diagnostic _ :: es => lastWrite a es

/-- The effective address of the instruction, where its mode has one: the resolver's, entered after the opcode
fetch. -/
def targetAddress (i : Instr) (s : State) : Option Addr :=
  match i.row.mode with
  | .addr m => some (resolve m i.byte1 i.byte2 (fetchOpcode i.row.opcode s)).opd.ea
  | .implied | .relative => none

/-- Accesses of the kinds `ks` at the effective address; none where the row has no effective address. -/
def atTarget (ea : Option Addr) (ks : List AccessKind) : List (AccessKind × Addr) :=
  match ea with
  | none => []
  | some a => ks.map fun k => (k, a)

/-- Bus accesses of each semantic function, oldest first, with their addresses: 20_memory.md R59 for the legal rows and
NOP, the rules of 49_nop_illegal.md for the illegal ones with the gate on. `ea` is the effective address, `sp` the SP the
function is entered with. -/
def semanticAccesses (ea : Option Addr) (sp : Byte) : Mnemonic → List (AccessKind × Addr)
  | .adc | .sbc | .and | .ora | .eor | .bit | .cmp | .cpx | .cpy | .lda | .ldx | .ldy => atTarget ea [.read]
  | .anc | .alr | .arr | .xaa | .axs | .las => atTarget ea [.read]
  | .lax => atTarget ea [.read, .read]
  | .sta | .stx | .sty | .sax | .ahx | .shy | .shx | .tas => atTarget ea [.write]
  | .asl | .lsr | .rol | .ror | .inc | .dec => atTarget ea [.read, .write]
  | .slo | .rla | .sre | .rra | .dcp | .isc => atTarget ea [.read, .write, .read]
  | .pha | .php => [(.write, stackAddr sp)]
  | .pla | .plp => [(.read, stackAddr (sp + 1#8))]
  | .jsr => [(.write, stackAddr sp), (.write, stackAddr (sp - 1#8))]
  | .rts => [(.read, stackAddr (sp + 1#8)), (.read, stackAddr (sp + 2#8))]
  | .rti => [(.read, stackAddr (sp + 1#8)), (.read, stackAddr (sp + 2#8)), (.read, stackAddr (sp + 3#8))]
  | .brk => [(.write, stackAddr sp), (.write, stackAddr (sp - 1#8)), (.write, stackAddr (sp - 2#8)),
      (.read, 0xFFFE#16), (.read, 0xFFFF#16)]
  | .bcc | .bcs | .beq | .bne | .bmi | .bpl | .bvc | .bvs | .jmp | .nop | .kil => []
  | .tax | .tay | .txa | .tya | .tsx | .txs | .inx | .iny | .dex | .dey => []
  | .clc | .cld | .cli | .clv | .sec | .sed | .sei => []

/-- The mnemonics whose semantic function may store to its operand's effective address. -/
def storesOperand : List Mnemonic :=
  [.sta, .stx, .sty, .asl, .lsr, .rol, .ror, .inc, .dec, .slo, .rla, .sre, .rra, .dcp, .isc, .sax, .ahx, .shy, .shx,
    .tas]

/-- The mnemonics that write the stack page. -/
def storesStack : List Mnemonic := [.pha, .php, .jsr, .brk]

/-- The machine is about to dispatch the instruction at PC: running, at an instruction boundary, and no interrupt due
(60_exceptions.md R294). -/
structure Dispatches (s : State) : Prop where
  running : s.halted = false
  boundary : s.remainingCycles = 0x00#8
  noNmi : s.pendingNmi = false
  noIrq : s.pendingIrq = false ∨ getFlag .interruptDisable s.p = true

/-- The mnemonics that write a flag, as the table of 10_state.md R30 lists them. -/
def Flag.writers : Flag → List Mnemonic
  | .carry => [.adc, .sbc, .asl, .lsr, .rol, .ror, .cmp, .cpx, .cpy, .clc, .sec, .plp, .rti, .slo, .rla, .sre, .rra,
      .dcp, .isc, .anc, .alr, .arr, .axs]
  | .zero => [.adc, .sbc, .and, .ora, .eor, .bit, .asl, .lsr, .rol, .ror, .cmp, .cpx, .cpy, .pla, .plp, .rti, .tax,
      .tay, .txa, .tya, .tsx, .lda, .ldx, .ldy, .inc, .dec, .inx, .iny, .dex, .dey, .slo, .rla, .sre, .rra, .lax, .dcp,
      .isc, .anc, .alr, .arr, .xaa, .axs, .las]
  | .interruptDisable => [.sei, .cli, .plp, .rti, .brk]
  | .decimal => [.sed, .cld, .plp, .rti]
  | .brk => [.brk]
  | .overflow => [.adc, .sbc, .bit, .clv, .plp, .rti, .rra, .isc, .arr]
  | .negative => [.adc, .sbc, .and, .ora, .eor, .bit, .asl, .lsr, .rol, .ror, .cmp, .cpx, .cpy, .pla, .plp, .rti, .tax,
      .tay, .txa, .tya, .tsx, .lda, .ldx, .ldy, .inc, .dec, .inx, .iny, .dex, .dey, .slo, .rla, .sre, .rra, .lax, .dcp,
      .isc, .anc, .alr, .arr, .xaa, .axs, .las]

end Sys2Proof.Machine
end

