-- ==== Sys2Proof/Certificates/Slice0/Obligations.lean ====
section
/-! DEFINITION. The obligations: what the model claims of the machine, rule by rule. Each docstring names the rules of
spec/ it rests on and, where it rests on a choice of the spec or of the model, that choice. The words used (RunsMemory,
RunsImplied, RunsBranch, entered, afterRead, afterWrite, semanticAccesses, lastWrite, Inv,
Dispatches) are defined in Sys2Proof/Safety.lean. -/

open Sys2Proof Sys2Proof.Machine

/-- R81: opcode byte, then the operand bytes, low before high; nothing of an encoding is dropped. -/
def Obligations.DecodeOfEncode : Prop :=
  ∀ (i : Instr) (rest : List Byte), i.wellFormed = true → decode (encode i ++ rest) = .ok (i, rest)

/-- The other direction of the round trip: no two byte strings of one length decode to one instruction. -/
def Obligations.EncodeOfDecode : Prop :=
  ∀ (bytes : List Byte) (i : Instr) (rest : List Byte),
    decode bytes = .ok (i, rest) → bytes = encode i ++ rest ∧ i.wellFormed = true

/-- R273: decode is total and only the opcode byte selects the row. -/
def Obligations.OpcodeByteDecides : Prop :=
  (∀ op b1 b2 : Byte, ∃ i rest, decode [op, b1, b2] = .ok (i, rest) ∧ i.row.opcode = op ∧ i.wellFormed = true ∧
      i.size + rest.length = 3) ∧
    (∀ i j : Instr, i.row.opcode = j.row.opcode → i.row = j.row)

/-- The examples of R101, R104, R107, R108, R109, R111, R141, R179, R233, R231 and R252. -/
def Obligations.SpecWordsDecode : Prop :=
  decode [0xAD#8, 0x34#8, 0x12#8] = .ok (.ldaAbs 0x34#8 0x12#8, []) ∧
  decode [0x9D#8, 0xFF#8, 0x10#8] = .ok (.staAbx 0xFF#8 0x10#8, []) ∧
  decode [0x6C#8, 0xFF#8, 0x02#8] = .ok (.jmpInd 0xFF#8 0x02#8, []) ∧
  decode [0xA1#8, 0x20#8] = .ok (.ldaIzx 0x20#8, []) ∧
  decode [0xB1#8, 0x86#8] = .ok (.ldaIzy 0x86#8, []) ∧
  decode [0xD0#8, 0xFC#8] = .ok (.bne 0xFC#8, []) ∧
  decode [0x0A#8] = .ok (.aslAcc, []) ∧
  decode [0x00#8] = .ok (.brk, []) ∧
  decode [0xEB#8, 0x01#8] = .ok (.sbcEB 0x01#8, []) ∧
  decode [0x07#8, 0x10#8] = .ok (.sloZp 0x10#8, []) ∧
  decode [0x02#8] = .ok (.kil02, [])

/-- R29 and R31, bit by bit. -/
def Obligations.FlagHelpersAndSetZN : Prop :=
  (∀ (f : Flag) (b : Bool) (p : Byte) (k : Nat), k < 8 →
      (setFlag f b p).getLsbD k = if (flagMask f).getLsbD k then b else p.getLsbD k) ∧
  (∀ (f : Flag) (p : Byte), getFlag f p = true ↔ p &&& flagMask f ≠ 0x00#8) ∧
  (∀ v p : Byte, (setZN v p).getLsbD 1 = decide (v = 0x00#8) ∧ (setZN v p).getLsbD 7 = v.getLsbD 7 ∧
      ∀ k, k ≠ 1 → k ≠ 7 → (setZN v p).getLsbD k = p.getLsbD k)

/-- R120, with V read as the spec reads it (D28): the signed sum is out of range; and the sentence of R123 that the
spec derives from it. -/
def Obligations.BinaryAdderOverIntegers : Prop :=
  ∀ (a m : Byte) (c : Bool) (p : Byte),
    let r := addCore a m c p
    let d := addCore a (m ^^^ 0xFF#8) c p
    r.value.toNat = (a.toNat + m.toNat + c.toNat) % 256 ∧
    r.status.getLsbD 0 = decide (255 < a.toNat + m.toNat + c.toNat) ∧
    r.status.getLsbD 6 = decide (a.toInt + m.toInt + c.toNat < -128 ∨ 127 < a.toInt + m.toInt + c.toNat) ∧
    r.status.getLsbD 1 = decide (r.value = 0x00#8) ∧ r.status.getLsbD 7 = r.value.getLsbD 7 ∧
    r.status &&& 0x3C#8 = p &&& 0x3C#8 ∧
    (d.value.toNat : Int) = (a.toNat - m.toNat - (1 - c.toNat : Int)) % 256 ∧
    (d.status.getLsbD 0 = true ↔ m.toNat + (1 - c.toNat) ≤ a.toNat)

/-- R121 says of its reference algorithm (the spec's choice D13, log 7): it "gives the arithmetically right BCD result
and carry for operands that are valid BCD". -/
def Obligations.DecimalResultIsBcd : Prop :=
  ∀ (a1 a0 m1 m0 : Nat) (c : Bool) (p : Byte), a1 ≤ 9 → a0 ≤ 9 → m1 ≤ 9 → m0 ≤ 9 →
    let bcd (n : Nat) : Byte := BitVec.ofNat 8 (16 * (n / 10) + n % 10)
    let a := 10 * a1 + a0
    let m := 10 * m1 + m0
    let add := addCoreDecimal (bcd a) (bcd m) c false p
    let sub := addCoreDecimal (bcd a) (bcd m ^^^ 0xFF#8) c true p
    add.value = bcd ((a + m + c.toNat) % 100) ∧ add.status.getLsbD 0 = decide (100 ≤ a + m + c.toNat) ∧
    sub.value = bcd ((100 + a - m - (1 - c.toNat)) % 100) ∧
    sub.status.getLsbD 0 = decide (m + (1 - c.toNat) ≤ a)

/-- R165. -/
def Obligations.CompareHelper : Prop :=
  ∀ reg m p : Byte,
    let r := compareBytes reg m p
    r.value.toNat = (256 + reg.toNat - m.toNat) % 256 ∧
    r.status.getLsbD 0 = decide (m.toNat ≤ reg.toNat) ∧ r.status.getLsbD 1 = decide (reg = m) ∧
    r.status.getLsbD 7 = r.value.getLsbD 7 ∧ r.status &&& 0x7C#8 = p &&& 0x7C#8

/-- R101 to R104 and the equivalent form of R115. The operand bytes are those the instruction carries (log 9,
DEDUCED). -/
def Obligations.ResolveAbsoluteModes : Prop :=
  ∀ (l h : Byte) (s : State),
    let after : State :=
      { s with pc := s.pc + 2#16, trace := .read (s.pc + 1#16) h :: .read s.pc l :: s.trace }
    let ea (index : Nat) : Addr := BitVec.ofNat 16 (l.toNat + 256 * h.toNat + index)
    let cross (index : Byte) : Nat := if 255 < l.toNat + index.toNat then 1 else 0
    resolve .absolute l h s = { opd := .cell (ea 0), extra := 0, state := after } ∧
    resolve .absoluteX l h s = { opd := .cell (ea s.x.toNat), extra := cross s.x, state := after } ∧
    resolve .absoluteY l h s = { opd := .cell (ea s.y.toNat), extra := cross s.y, state := after } ∧
    resolve .absoluteXConst l h s = { opd := .cell (ea s.x.toNat), extra := 0, state := after } ∧
    resolve .absoluteYConst l h s = { opd := .cell (ea s.y.toNat), extra := 0, state := after }

/-- R112 to R114 and R105. The operand byte is the one the instruction carries (log 9, DEDUCED). -/
def Obligations.ResolveZeroPageModes : Prop :=
  ∀ (n b2 : Byte) (s : State),
    let after : State := { s with pc := s.pc + 1#16, trace := .read s.pc n :: s.trace }
    resolve .zeroPage n b2 s = { opd := .cell (BitVec.ofNat 16 n.toNat), extra := 0, state := after } ∧
    resolve .zeroPageX n b2 s =
      { opd := .cell (BitVec.ofNat 16 ((n.toNat + s.x.toNat) % 256)), extra := 0, state := after } ∧
    resolve .zeroPageY n b2 s =
      { opd := .cell (BitVec.ofNat 16 ((n.toNat + s.y.toNat) % 256)), extra := 0, state := after } ∧
    resolve .immediate n b2 s =
      { opd := .inline s.pc n, extra := 0, state := { s with pc := s.pc + 1#16 } }

/-- R107 to R110. The operand bytes are those the instruction carries (log 9, DEDUCED). -/
def Obligations.ResolveIndirectModes : Prop :=
  ∀ (l h : Byte) (s : State),
    let ptr : Nat := l.toNat + 256 * h.toNat
    let next : Nat := 256 * h.toNat + (l.toNat + 1) % 256
    let low (k : Nat) : PortEvent := .read (BitVec.ofNat 16 k) (s.mem.read k)
    let word16 (kl kh : Nat) : Nat := (s.mem.read kl).toNat + 256 * (s.mem.read kh).toNat
    let px : Nat := (l.toNat + s.x.toNat) % 256
    let px1 : Nat := (l.toNat + s.x.toNat + 1) % 256
    let pl : Nat := l.toNat
    let pl1 : Nat := (l.toNat + 1) % 256
    let after (kl kh : Nat) : State :=
      { s with pc := s.pc + 1#16, trace := low kh :: low kl :: .read s.pc l :: s.trace }
    resolve .indirect l h s =
      { opd := .cell (BitVec.ofNat 16 (word16 ptr next)), extra := 0,
        state :=
          { s with
            pc := s.pc + 2#16
            trace := low next :: low ptr :: .read (s.pc + 1#16) h :: .read s.pc l :: s.trace } } ∧
    resolve .indirectX l h s =
      { opd := .cell (BitVec.ofNat 16 (word16 px px1)), extra := 0, state := after px px1 } ∧
    resolve .indirectY l h s =
      { opd := .cell (BitVec.ofNat 16 (word16 pl pl1 + s.y.toNat)),
        extra := if 255 < (s.mem.read pl).toNat + s.y.toNat then 1 else 0, state := after pl pl1 } ∧
    resolve .indirectYConst l h s =
      { opd := .cell (BitVec.ofNat 16 (word16 pl pl1 + s.y.toNat)), extra := 0, state := after pl pl1 }

/-- R100, R106, R111 and the summary table R117: the thirteen resolvers that return an AbsoluteAddress, then Implied,
then Relative. The trace is the model's own record (log 5); operand bytes are the instruction's (log 9, DEDUCED). -/
def Obligations.ResolverFrame : Prop :=
  (∀ (m : AddrMode) (b1 b2 : Byte) (s : State),
    let r := resolve m b1 b2 s
    (∃ reads : List PortEvent,
      r.state =
        { s with pc := s.pc + BitVec.ofNat 16 (Mode.addr m).operandBytes, trace := reads ++ s.trace } ∧
      reads.length = resolverReads (.addr m) ∧ ∀ e ∈ reads, ∃ a v, e = .read a v) ∧
    r.extra ≤ 1 ∧ (r.extra = 1 → m = .absoluteX ∨ m = .absoluteY ∨ m = .indirectY)) ∧
  (∀ s : State, implied s = { opd := (), extra := 0, state := s }) ∧
  (∀ (n : Byte) (s : State),
    relative n s = { opd := n, extra := 0, state := { s with pc := s.pc + 1#16, trace := .read s.pc n :: s.trace } })

/-- R210, R211, R212. Completes: ldaImm, ldaZp, ldaZpx, ldaAbs, ldaAbx, ldaAby, ldaIzx, ldaIzy, ldxImm, ldxZp, ldxZpy,
ldxAbs, ldxAby, ldyImm, ldyZp, ldyZpx, ldyAbs, ldyAbx. -/
def Obligations.Loads : Prop :=
  RunsMemory
    [⟨0xA9#8, .immediate, 2⟩, ⟨0xA5#8, .zeroPage, 3⟩, ⟨0xB5#8, .zeroPageX, 4⟩,
      ⟨0xAD#8, .absolute, 4⟩, ⟨0xBD#8, .absoluteX, 4⟩, ⟨0xB9#8, .absoluteY, 4⟩,
      ⟨0xA1#8, .indirectX, 6⟩, ⟨0xB1#8, .indirectY, 5⟩] anyState
    (fun o s => { afterRead o s with a := o.byte s, p := setZN (o.byte s) s.p }) ∧
  RunsMemory
    [⟨0xA2#8, .immediate, 2⟩, ⟨0xA6#8, .zeroPage, 3⟩, ⟨0xB6#8, .zeroPageY, 4⟩, ⟨0xAE#8, .absolute, 4⟩,
      ⟨0xBE#8, .absoluteY, 4⟩] anyState
    (fun o s => { afterRead o s with x := o.byte s, p := setZN (o.byte s) s.p }) ∧
  RunsMemory
    [⟨0xA0#8, .immediate, 2⟩, ⟨0xA4#8, .zeroPage, 3⟩, ⟨0xB4#8, .zeroPageX, 4⟩, ⟨0xAC#8, .absolute, 4⟩,
      ⟨0xBC#8, .absoluteX, 4⟩] anyState
    (fun o s => { afterRead o s with y := o.byte s, p := setZN (o.byte s) s.p })

/-- R213, R214, R215. Completes: staZp, staZpx, staAbs, staAbx, staAby, staIzx, staIzy, stxZp, stxZpy, stxAbs, styZp,
styZpx, styAbs. -/
def Obligations.Stores : Prop :=
  RunsMemory
    [⟨0x85#8, .zeroPage, 3⟩, ⟨0x95#8, .zeroPageX, 4⟩, ⟨0x8D#8, .absolute, 4⟩, ⟨0x9D#8, .absoluteXConst, 5⟩,
      ⟨0x99#8, .absoluteYConst, 5⟩, ⟨0x81#8, .indirectX, 6⟩, ⟨0x91#8, .indirectYConst, 6⟩] anyState
    (fun o s => afterWrite o s.a s) ∧
  RunsMemory [⟨0x86#8, .zeroPage, 3⟩, ⟨0x96#8, .zeroPageY, 4⟩, ⟨0x8E#8, .absolute, 4⟩] anyState
    (fun o s => afterWrite o s.x s) ∧
  RunsMemory [⟨0x84#8, .zeroPage, 3⟩, ⟨0x94#8, .zeroPageX, 4⟩, ⟨0x8C#8, .absolute, 4⟩] anyState
    (fun o s => afterWrite o s.y s)

/-- R122. The adders are stated over the integers in BinaryAdderOverIntegers and DecimalResultIsBcd. Completes:
adcImm, adcZp, adcZpx, adcAbs, adcAbx, adcAby, adcIzx, adcIzy. -/
def Obligations.AddWithCarry : Prop :=
  RunsMemory
    [⟨0x69#8, .immediate, 2⟩, ⟨0x65#8, .zeroPage, 3⟩, ⟨0x75#8, .zeroPageX, 4⟩,
      ⟨0x6D#8, .absolute, 4⟩, ⟨0x7D#8, .absoluteX, 4⟩, ⟨0x79#8, .absoluteY, 4⟩,
      ⟨0x61#8, .indirectX, 6⟩, ⟨0x71#8, .indirectY, 5⟩] anyState
    (fun o s =>
      let r :=
        if s.straps.decimalModeEnabled = true ∧ getFlag .decimal s.p = true
        then addCoreDecimal s.a (o.byte s) (getFlag .carry s.p) false s.p
        else addCore s.a (o.byte s) (getFlag .carry s.p) s.p
      { afterRead o s with a := r.value, p := r.status })

/-- R123 and R233. Completes: sbcImm, sbcZp, sbcZpx, sbcAbs, sbcAbx, sbcAby, sbcIzx, sbcIzy, sbcEB. -/
def Obligations.SubtractWithBorrow : Prop :=
  let effect (o : MemOperand) (s : State) : State :=
    let m := o.byte s ^^^ 0xFF#8
    let r :=
      if s.straps.decimalModeEnabled = true ∧ getFlag .decimal s.p = true
      then addCoreDecimal s.a m (getFlag .carry s.p) true s.p
      else addCore s.a m (getFlag .carry s.p) s.p
    { afterRead o s with a := r.value, p := r.status }
  RunsMemory
    [⟨0xE9#8, .immediate, 2⟩, ⟨0xE5#8, .zeroPage, 3⟩, ⟨0xF5#8, .zeroPageX, 4⟩,
      ⟨0xED#8, .absolute, 4⟩, ⟨0xFD#8, .absoluteX, 4⟩, ⟨0xF9#8, .absoluteY, 4⟩,
      ⟨0xE1#8, .indirectX, 6⟩, ⟨0xF1#8, .indirectY, 5⟩] anyState effect ∧
  RunsMemory [⟨0xEB#8, .immediate, 2⟩] gateOn effect

/-- R130, R131, R132. Completes: andImm, andZp, andZpx, andAbs, andAbx, andAby, andIzx, andIzy, oraImm, oraZp, oraZpx,
oraAbs, oraAbx, oraAby, oraIzx, oraIzy, eorImm, eorZp, eorZpx, eorAbs, eorAbx, eorAby, eorIzx, eorIzy. -/
def Obligations.LogicalOps : Prop :=
  RunsMemory
    [⟨0x29#8, .immediate, 2⟩, ⟨0x25#8, .zeroPage, 3⟩, ⟨0x35#8, .zeroPageX, 4⟩,
      ⟨0x2D#8, .absolute, 4⟩, ⟨0x3D#8, .absoluteX, 4⟩, ⟨0x39#8, .absoluteY, 4⟩,
      ⟨0x21#8, .indirectX, 6⟩, ⟨0x31#8, .indirectY, 5⟩] anyState
    (fun o s => { afterRead o s with a := s.a &&& o.byte s, p := setZN (s.a &&& o.byte s) s.p }) ∧
  RunsMemory
    [⟨0x09#8, .immediate, 2⟩, ⟨0x05#8, .zeroPage, 3⟩, ⟨0x15#8, .zeroPageX, 4⟩,
      ⟨0x0D#8, .absolute, 4⟩, ⟨0x1D#8, .absoluteX, 4⟩, ⟨0x19#8, .absoluteY, 4⟩,
      ⟨0x01#8, .indirectX, 6⟩, ⟨0x11#8, .indirectY, 5⟩] anyState
    (fun o s => { afterRead o s with a := s.a ||| o.byte s, p := setZN (s.a ||| o.byte s) s.p }) ∧
  RunsMemory
    [⟨0x49#8, .immediate, 2⟩, ⟨0x45#8, .zeroPage, 3⟩, ⟨0x55#8, .zeroPageX, 4⟩,
      ⟨0x4D#8, .absolute, 4⟩, ⟨0x5D#8, .absoluteX, 4⟩, ⟨0x59#8, .absoluteY, 4⟩,
      ⟨0x41#8, .indirectX, 6⟩, ⟨0x51#8, .indirectY, 5⟩] anyState
    (fun o s => { afterRead o s with a := s.a ^^^ o.byte s, p := setZN (s.a ^^^ o.byte s) s.p })

/-- R133. Completes: bitZp, bitAbs. -/
def Obligations.BitTest : Prop :=
  RunsMemory [⟨0x24#8, .zeroPage, 3⟩, ⟨0x2C#8, .absolute, 4⟩] anyState
    (fun o s =>
      { afterRead o s with
        p := (s.p &&& 0x3D#8) ||| (o.byte s &&& 0xC0#8) |||
          (if s.a &&& o.byte s = 0x00#8 then 0x02#8 else 0x00#8) })

/-- R140, R141, R142. Completes: aslAcc, aslZp, aslZpx, aslAbs, aslAbx, lsrAcc, lsrZp, lsrZpx, lsrAbs, lsrAbx. -/
def Obligations.ShiftLeftRight : Prop :=
  RunsImplied [⟨0x0A#8, 2⟩] anyState
    (fun s =>
      let r : Byte := s.a <<< 1
      { s with a := r, p := setZN r (setFlag .carry (s.a.getLsbD 7) s.p) }) ∧
  RunsMemory [⟨0x06#8, .zeroPage, 5⟩, ⟨0x16#8, .zeroPageX, 6⟩, ⟨0x0E#8, .absolute, 6⟩, ⟨0x1E#8, .absoluteXConst, 7⟩]
    anyState
    (fun o s =>
      let r : Byte := (o.byte s) <<< 1
      { afterWrite o r (afterRead o s) with p := setZN r (setFlag .carry ((o.byte s).getLsbD 7) s.p) }) ∧
  RunsImplied [⟨0x4A#8, 2⟩] anyState
    (fun s =>
      let r : Byte := s.a >>> 1
      { s with a := r, p := setZN r (setFlag .carry (s.a.getLsbD 0) s.p) }) ∧
  RunsMemory [⟨0x46#8, .zeroPage, 5⟩, ⟨0x56#8, .zeroPageX, 6⟩, ⟨0x4E#8, .absolute, 6⟩, ⟨0x5E#8, .absoluteXConst, 7⟩]
    anyState
    (fun o s =>
      let r : Byte := (o.byte s) >>> 1
      { afterWrite o r (afterRead o s) with p := setZN r (setFlag .carry ((o.byte s).getLsbD 0) s.p) })

/-- R140, R143, R144. Completes: rolAcc, rolZp, rolZpx, rolAbs, rolAbx, rorAcc, rorZp, rorZpx, rorAbs, rorAbx. -/
def Obligations.RotateLeftRight : Prop :=
  RunsImplied [⟨0x2A#8, 2⟩] anyState
    (fun s =>
      let r : Byte := s.a.extractLsb' 0 7 ++ BitVec.ofBool (getFlag .carry s.p)
      { s with a := r, p := setZN r (setFlag .carry (s.a.getLsbD 7) s.p) }) ∧
  RunsMemory [⟨0x26#8, .zeroPage, 5⟩, ⟨0x36#8, .zeroPageX, 6⟩, ⟨0x2E#8, .absolute, 6⟩, ⟨0x3E#8, .absoluteXConst, 7⟩]
    anyState
    (fun o s =>
      let r : Byte := (o.byte s).extractLsb' 0 7 ++ BitVec.ofBool (getFlag .carry s.p)
      { afterWrite o r (afterRead o s) with p := setZN r (setFlag .carry ((o.byte s).getLsbD 7) s.p) }) ∧
  RunsImplied [⟨0x6A#8, 2⟩] anyState
    (fun s =>
      let r : Byte := BitVec.ofBool (getFlag .carry s.p) ++ s.a.extractLsb' 1 7
      { s with a := r, p := setZN r (setFlag .carry (s.a.getLsbD 0) s.p) }) ∧
  RunsMemory [⟨0x66#8, .zeroPage, 5⟩, ⟨0x76#8, .zeroPageX, 6⟩, ⟨0x6E#8, .absolute, 6⟩, ⟨0x7E#8, .absoluteXConst, 7⟩]
    anyState
    (fun o s =>
      let r : Byte := BitVec.ofBool (getFlag .carry s.p) ++ (o.byte s).extractLsb' 1 7
      { afterWrite o r (afterRead o s) with p := setZN r (setFlag .carry ((o.byte s).getLsbD 0) s.p) })

/-- R141 to R144 read as arithmetic, and the corner case of R143. -/
def Obligations.ShiftsOverNaturals : Prop :=
  ∀ v p : Byte,
    let c := (getFlag .carry p).toNat
    (aslByte v p).value.toNat = 2 * v.toNat % 256 ∧
    (aslByte v p).status.getLsbD 0 = decide (128 ≤ v.toNat) ∧
    (lsrByte v p).value.toNat = v.toNat / 2 ∧
    (lsrByte v p).status.getLsbD 0 = decide (v.toNat % 2 = 1) ∧
    (rolByte v p).value.toNat = (2 * v.toNat + c) % 256 ∧
    (rolByte v p).status.getLsbD 0 = decide (128 ≤ v.toNat) ∧
    (rorByte v p).value.toNat = v.toNat / 2 + 128 * c ∧
    (rorByte v p).status.getLsbD 0 = decide (v.toNat % 2 = 1) ∧
    (let once := rolByte v p
     let back := rorByte once.value once.status
     back.value = v ∧ back.status.getLsbD 0 = p.getLsbD 0) ∧
    (let nine := Nat.repeat (fun r : Alu => rolByte r.value r.status) 9 { value := v, status := p }
     nine.value = v ∧ nine.status.getLsbD 0 = p.getLsbD 0)

/-- R150 to R158; the pages compared are those of D20. Completes: bcc, bcs, beq, bne, bmi, bpl, bvc, bvs. -/
def Obligations.Branches : Prop :=
  RunsBranch 0x90#8 (fun p => !p.getLsbD 0) ∧ RunsBranch 0xB0#8 (fun p => p.getLsbD 0) ∧
  RunsBranch 0xF0#8 (fun p => p.getLsbD 1) ∧ RunsBranch 0xD0#8 (fun p => !p.getLsbD 1) ∧
  RunsBranch 0x30#8 (fun p => p.getLsbD 7) ∧ RunsBranch 0x10#8 (fun p => !p.getLsbD 7) ∧
  RunsBranch 0x50#8 (fun p => !p.getLsbD 6) ∧ RunsBranch 0x70#8 (fun p => p.getLsbD 6)

/-- R166, R167, R168. Completes: cmpImm, cmpZp, cmpZpx, cmpAbs, cmpAbx, cmpAby, cmpIzx, cmpIzy, cpxImm, cpxZp, cpxAbs,
cpyImm, cpyZp, cpyAbs. -/
def Obligations.Compares : Prop :=
  let flags (reg m p : Byte) : Byte :=
    setFlag .negative (reg - m).msb
      (setFlag .zero (decide (reg = m)) (setFlag .carry (decide (m.toNat ≤ reg.toNat)) p))
  RunsMemory
    [⟨0xC9#8, .immediate, 2⟩, ⟨0xC5#8, .zeroPage, 3⟩, ⟨0xD5#8, .zeroPageX, 4⟩,
      ⟨0xCD#8, .absolute, 4⟩, ⟨0xDD#8, .absoluteX, 4⟩, ⟨0xD9#8, .absoluteY, 4⟩,
      ⟨0xC1#8, .indirectX, 6⟩, ⟨0xD1#8, .indirectY, 5⟩] anyState
    (fun o s => { afterRead o s with p := flags s.a (o.byte s) s.p }) ∧
  RunsMemory [⟨0xE0#8, .immediate, 2⟩, ⟨0xE4#8, .zeroPage, 3⟩, ⟨0xEC#8, .absolute, 4⟩] anyState
    (fun o s => { afterRead o s with p := flags s.x (o.byte s) s.p }) ∧
  RunsMemory [⟨0xC0#8, .immediate, 2⟩, ⟨0xC4#8, .zeroPage, 3⟩, ⟨0xCC#8, .absolute, 4⟩] anyState
    (fun o s => { afterRead o s with p := flags s.y (o.byte s) s.p })

/-- R216 to R221. Completes: incZp, incZpx, incAbs, incAbx, decZp, decZpx, decAbs, decAbx, inx, iny, dex, dey. -/
def Obligations.IncrementsDecrements : Prop :=
  RunsMemory [⟨0xE6#8, .zeroPage, 5⟩, ⟨0xF6#8, .zeroPageX, 6⟩, ⟨0xEE#8, .absolute, 6⟩, ⟨0xFE#8, .absoluteXConst, 7⟩]
    anyState
    (fun o s => { afterWrite o (o.byte s + 1#8) (afterRead o s) with p := setZN (o.byte s + 1#8) s.p }) ∧
  RunsMemory [⟨0xC6#8, .zeroPage, 5⟩, ⟨0xD6#8, .zeroPageX, 6⟩, ⟨0xCE#8, .absolute, 6⟩, ⟨0xDE#8, .absoluteXConst, 7⟩]
    anyState
    (fun o s => { afterWrite o (o.byte s - 1#8) (afterRead o s) with p := setZN (o.byte s - 1#8) s.p }) ∧
  RunsImplied [⟨0xE8#8, 2⟩] anyState (fun s => { s with x := s.x + 1#8, p := setZN (s.x + 1#8) s.p }) ∧
  RunsImplied [⟨0xC8#8, 2⟩] anyState (fun s => { s with y := s.y + 1#8, p := setZN (s.y + 1#8) s.p }) ∧
  RunsImplied [⟨0xCA#8, 2⟩] anyState (fun s => { s with x := s.x - 1#8, p := setZN (s.x - 1#8) s.p }) ∧
  RunsImplied [⟨0x88#8, 2⟩] anyState (fun s => { s with y := s.y - 1#8, p := setZN (s.y - 1#8) s.p })

/-- R190 to R195. Completes: tax, tay, txa, tya, tsx, txs. -/
def Obligations.Transfers : Prop :=
  RunsImplied [⟨0xAA#8, 2⟩] anyState (fun s => { s with x := s.a, p := setZN s.a s.p }) ∧
  RunsImplied [⟨0xA8#8, 2⟩] anyState (fun s => { s with y := s.a, p := setZN s.a s.p }) ∧
  RunsImplied [⟨0x8A#8, 2⟩] anyState (fun s => { s with a := s.x, p := setZN s.x s.p }) ∧
  RunsImplied [⟨0x98#8, 2⟩] anyState (fun s => { s with a := s.y, p := setZN s.y s.p }) ∧
  RunsImplied [⟨0xBA#8, 2⟩] anyState (fun s => { s with x := s.sp, p := setZN s.sp s.p }) ∧
  RunsImplied [⟨0x9A#8, 2⟩] anyState (fun s => { s with sp := s.x })

/-- R196 to R202, bit positions of R27. Completes: clc, cld, cli, clv, sec, sed, sei. -/
def Obligations.FlagInstructions : Prop :=
  RunsImplied [⟨0x18#8, 2⟩] anyState (fun s => { s with p := s.p &&& 0xFE#8 }) ∧
  RunsImplied [⟨0xD8#8, 2⟩] anyState (fun s => { s with p := s.p &&& 0xF7#8 }) ∧
  RunsImplied [⟨0x58#8, 2⟩] anyState (fun s => { s with p := s.p &&& 0xFB#8 }) ∧
  RunsImplied [⟨0xB8#8, 2⟩] anyState (fun s => { s with p := s.p &&& 0xBF#8 }) ∧
  RunsImplied [⟨0x38#8, 2⟩] anyState (fun s => { s with p := s.p ||| 0x01#8 }) ∧
  RunsImplied [⟨0xF8#8, 2⟩] anyState (fun s => { s with p := s.p ||| 0x08#8 }) ∧
  RunsImplied [⟨0x78#8, 2⟩] anyState (fun s => { s with p := s.p ||| 0x04#8 })

/-- R170, R171; SP wraps silently. -/
def Obligations.PushAndPop : Prop :=
  (∀ (v : Byte) (s : State),
    push v s =
      { s with
        sp := BitVec.ofNat 8 (s.sp.toNat + 255)
        mem := s.mem.write (256 + s.sp.toNat) v
        trace := .write (BitVec.ofNat 16 (256 + s.sp.toNat)) v :: s.trace }) ∧
  (∀ s : State,
    let sp := (s.sp.toNat + 1) % 256
    pop s =
      (s.mem.read (256 + sp),
        { s with
          sp := BitVec.ofNat 8 sp
          trace := .read (BitVec.ofNat 16 (256 + sp)) (s.mem.read (256 + sp)) :: s.trace }))

/-- R173 to R176. Completes: pha, php, pla, plp. -/
def Obligations.PushAndPullInstructions : Prop :=
  RunsImplied [⟨0x48#8, 3⟩] anyState
    (fun s =>
      { s with
        sp := s.sp - 1#8
        mem := s.mem.write (stackAddr s.sp).toNat s.a
        trace := .write (stackAddr s.sp) s.a :: s.trace }) ∧
  RunsImplied [⟨0x08#8, 3⟩] anyState
    (fun s =>
      { s with
        sp := s.sp - 1#8
        mem := s.mem.write (stackAddr s.sp).toNat (s.p ||| 0x30#8)
        trace := .write (stackAddr s.sp) (s.p ||| 0x30#8) :: s.trace }) ∧
  RunsImplied [⟨0x68#8, 4⟩] anyState
    (fun s =>
      let v := s.byteAt (stackAddr (s.sp + 1#8))
      { s with
        a := v
        sp := s.sp + 1#8
        p := setZN v s.p
        trace := .read (stackAddr (s.sp + 1#8)) v :: s.trace }) ∧
  RunsImplied [⟨0x28#8, 4⟩] anyState
    (fun s =>
      let v := s.byteAt (stackAddr (s.sp + 1#8))
      { s with
        sp := s.sp + 1#8
        p := (v &&& 0xCF#8) ||| (s.p &&& 0x30#8)
        trace := .read (stackAddr (s.sp + 1#8)) v :: s.trace })

/-- R177, R178. Completes: rts, jsr. -/
def Obligations.SubroutineCallReturn : Prop :=
  (∀ (l h : Byte) (s : State), s.halted = false →
    let last := s.pc + 2#16
    exec (.jsr l h) s = .next
      { s with
        sp := s.sp - 2#8
        pc := word h l
        remainingCycles := s.remainingCycles + 6#8
        mem := (s.mem.write (stackAddr s.sp).toNat (highByte last)).write (stackAddr (s.sp - 1#8)).toNat
          (lowByte last)
        trace := [.write (stackAddr (s.sp - 1#8)) (lowByte last), .write (stackAddr s.sp) (highByte last),
            .read (s.pc + 2#16) h, .read (s.pc + 1#16) l, .read s.pc 0x20#8] ++ s.trace }) ∧
  RunsImplied [⟨0x60#8, 6⟩] anyState
    (fun s =>
      let lo := s.byteAt (stackAddr (s.sp + 1#8))
      let hi := s.byteAt (stackAddr (s.sp + 2#8))
      { s with
        sp := s.sp + 2#8
        pc := word hi lo + 1#16
        trace := .read (stackAddr (s.sp + 2#8)) hi :: .read (stackAddr (s.sp + 1#8)) lo :: s.trace })

/-- R181; the Indirect resolver and its bug are ResolveIndirectModes. Completes: jmpAbs, jmpInd. -/
def Obligations.Jumps : Prop :=
  RunsMemory [⟨0x4C#8, .absolute, 3⟩, ⟨0x6C#8, .indirect, 5⟩] anyState (fun o s => { s with pc := o.ea })

/-- R179. Completes: brk. -/
def Obligations.SoftwareInterrupt : Prop :=
  RunsImplied [⟨0x00#8, 7⟩] anyState
    (fun s => entered (s.pc + 1#16) (s.p ||| 0x30#8) (s.p ||| 0x34#8) 0xFFFE#16 s)

/-- R180. Completes: rti. -/
def Obligations.ReturnFromInterrupt : Prop :=
  RunsImplied [⟨0x40#8, 6⟩] anyState
    (fun s =>
      let v := s.byteAt (stackAddr (s.sp + 1#8))
      let lo := s.byteAt (stackAddr (s.sp + 2#8))
      let hi := s.byteAt (stackAddr (s.sp + 3#8))
      { s with
        sp := s.sp + 3#8
        p := (v &&& 0xCF#8) ||| (s.p &&& 0x30#8)
        pc := word hi lo
        trace := [.read (stackAddr (s.sp + 3#8)) hi, .read (stackAddr (s.sp + 2#8)) lo,
            .read (stackAddr (s.sp + 1#8)) v] ++ s.trace })

/-- The round trips of R172, R176, R178 and R301; what a handler does in between is left out: the partner runs at
once, wherever PC is, and in the middle of a countdown (log 14, DESIGN CHOICE). That a stacked byte reads back as
stacked rests on the RAM bus (R63; log 1, DESIGN CHOICE). -/
def Obligations.StackRoundTrips : Prop :=
  ∀ s : State, s.mem.wf = true → s.halted = false →
    (∃ t u, exec .php s = .next t ∧ exec .plp t = .next u ∧ u.p = s.p ∧ u.sp = s.sp) ∧
    (∃ t u, exec .pha s = .next t ∧ exec .pla t = .next u ∧ u.a = s.a ∧ u.sp = s.sp) ∧
    (∀ l h : Byte, ∃ t u, exec (.jsr l h) s = .next t ∧ t.pc = word h l ∧ exec .rts t = .next u ∧
      u.pc = s.pc + 3#16 ∧ u.sp = s.sp ∧ u.p = s.p) ∧
    (∃ t u, exec .brk s = .next t ∧ exec .rti t = .next u ∧ u.pc = s.pc + 2#16 ∧ u.sp = s.sp ∧
      u.p = s.p ||| 0x30#8 ∧ u.a = s.a ∧ u.x = s.x ∧ u.y = s.y)

/-- R230, and R232 with the gate on; R232 with the gate off is GateOff. Completes: nop, nop1A, nop3A, nop5A, nop7A,
nopDA, nopFA, nop80, nop82, nop89, nopC2, nopE2, nop04, nop44, nop64, nop14, nop34, nop54, nop74, nopD4, nopF4, nop0C,
nop1C, nop3C, nop5C, nop7C, nopDC, nopFC. -/
def Obligations.NoOperation : Prop :=
  RunsImplied [⟨0xEA#8, 2⟩] anyState (fun s => s) ∧
  RunsImplied [⟨0x1A#8, 2⟩, ⟨0x3A#8, 2⟩, ⟨0x5A#8, 2⟩, ⟨0x7A#8, 2⟩, ⟨0xDA#8, 2⟩, ⟨0xFA#8, 2⟩] gateOn (fun s => s) ∧
  RunsMemory
    [⟨0x80#8, .immediate, 2⟩, ⟨0x82#8, .immediate, 2⟩, ⟨0x89#8, .immediate, 2⟩, ⟨0xC2#8, .immediate, 2⟩,
      ⟨0xE2#8, .immediate, 2⟩, ⟨0x04#8, .zeroPage, 3⟩, ⟨0x44#8, .zeroPage, 3⟩, ⟨0x64#8, .zeroPage, 3⟩,
      ⟨0x14#8, .zeroPageX, 4⟩, ⟨0x34#8, .zeroPageX, 4⟩, ⟨0x54#8, .zeroPageX, 4⟩, ⟨0x74#8, .zeroPageX, 4⟩,
      ⟨0xD4#8, .zeroPageX, 4⟩, ⟨0xF4#8, .zeroPageX, 4⟩, ⟨0x0C#8, .absolute, 4⟩, ⟨0x1C#8, .absoluteX, 4⟩,
      ⟨0x3C#8, .absoluteX, 4⟩, ⟨0x5C#8, .absoluteX, 4⟩, ⟨0x7C#8, .absoluteX, 4⟩, ⟨0xDC#8, .absoluteX, 4⟩,
      ⟨0xFC#8, .absoluteX, 4⟩] gateOn
    (fun _ s => s)

/-- R231; that the gate covers all 105 bytes is the spec's decision D11, that the notice is an event carrying the byte
is D18, and that the model records it in its trace is log 5. -/
def Obligations.GateOff : Prop :=
  ∀ (i : Instr) (s : State), i.row.cls = .illegal → s.halted = false →
    s.straps.illegalOpcodesEnabled = false →
    (i.row.mode = .implied → exec i s = .next
      { s with
        pc := s.pc + 1#16
        remainingCycles := s.remainingCycles + BitVec.ofNat 8 i.row.base
        trace := .diagnostic i.row.opcode :: .read s.pc i.row.opcode :: s.trace }) ∧
    (∀ m, i.row.mode = .addr m →
      let r := resolve m i.byte1 i.byte2 (fetchOpcode i.row.opcode s)
      exec i s = .next
        { s with
          pc := s.pc + BitVec.ofNat 16 i.size
          remainingCycles := s.remainingCycles + BitVec.ofNat 8 (i.row.base + r.extra)
          trace := .diagnostic i.row.opcode :: r.state.trace })

/-- R234 to R237, R240, R241 (formulas from the spec, log 8; the second read is the spec's decision D21). That the
second read answers the byte just written rests on the RAM bus (49_nop_illegal.md section 2; log 1, DESIGN CHOICE).
Completes: sloIzx, sloZp, sloAbs, sloIzy, sloZpx, sloAby, sloAbx, rlaIzx, rlaZp, rlaAbs, rlaIzy, rlaZpx, rlaAby,
rlaAbx, sreIzx, sreZp, sreAbs, sreIzy, sreZpx, sreAby, sreAbx, rraIzx, rraZp, rraAbs, rraIzy, rraZpx, rraAby, rraAbx,
dcpIzx, dcpZp, dcpAbs, dcpIzy, dcpZpx, dcpAby, dcpAbx, iscIzx, iscZp, iscAbs, iscIzy, iscZpx, iscAby, iscAbx. -/
def Obligations.ReadModifyWriteComposites : Prop :=
  let premise (s : State) : Prop := gateOn s ∧ s.mem.wf = true
  let rewritten (o : MemOperand) (r : Byte) (s : State) : State :=
    let t := afterWrite o r (afterRead o s)
    { t with trace := .read o.ea r :: t.trace }
  let add (a m p : Byte) (sub : Bool) (s : State) : Alu :=
    if s.straps.decimalModeEnabled = true ∧ getFlag .decimal p = true
    then addCoreDecimal a m (getFlag .carry p) sub p else addCore a m (getFlag .carry p) p
  RunsMemory (compositeForms 0x00#8) premise (fun o s =>
    let v := o.byte s
    let r := v <<< 1
    { rewritten o r s with a := s.a ||| r, p := setZN (s.a ||| r) (setFlag .carry (v.getLsbD 7) s.p) }) ∧
  RunsMemory (compositeForms 0x20#8) premise (fun o s =>
    let v := o.byte s
    let r : Byte := v.extractLsb' 0 7 ++ BitVec.ofBool (getFlag .carry s.p)
    { rewritten o r s with a := s.a &&& r, p := setZN (s.a &&& r) (setFlag .carry (v.getLsbD 7) s.p) }) ∧
  RunsMemory (compositeForms 0x40#8) premise (fun o s =>
    let v := o.byte s
    let r := v >>> 1
    { rewritten o r s with a := s.a ^^^ r, p := setZN (s.a ^^^ r) (setFlag .carry (v.getLsbD 0) s.p) }) ∧
  RunsMemory (compositeForms 0x60#8) premise (fun o s =>
    let v := o.byte s
    let r : Byte := BitVec.ofBool (getFlag .carry s.p) ++ v.extractLsb' 1 7
    let sum := add s.a r (setFlag .carry (v.getLsbD 0) s.p) false s
    { rewritten o r s with a := sum.value, p := sum.status }) ∧
  RunsMemory (compositeForms 0xC0#8) premise (fun o s =>
    let r := o.byte s - 1#8
    { rewritten o r s with p := (compareBytes s.a r s.p).status }) ∧
  RunsMemory (compositeForms 0xE0#8) premise (fun o s =>
    let r := o.byte s + 1#8
    let diff := add s.a (r ^^^ 0xFF#8) s.p true s
    { rewritten o r s with a := diff.value, p := diff.status })

/-- R238, R239, R251 (formulas from the spec, log 8; the second read of LAX is D21). Completes: saxZp, saxZpy, saxAbs,
saxIzx, laxZp, laxZpy, laxAbs, laxAby, laxIzx, laxIzy, laxImm, las. -/
def Obligations.CombinedLoadStore : Prop :=
  RunsMemory [⟨0x87#8, .zeroPage, 3⟩, ⟨0x97#8, .zeroPageY, 4⟩, ⟨0x8F#8, .absolute, 4⟩, ⟨0x83#8, .indirectX, 6⟩] gateOn
    (fun o s => afterWrite o (s.a &&& s.x) s) ∧
  RunsMemory
    [⟨0xA7#8, .zeroPage, 3⟩, ⟨0xB7#8, .zeroPageY, 4⟩, ⟨0xAF#8, .absolute, 4⟩, ⟨0xBF#8, .absoluteY, 4⟩,
      ⟨0xA3#8, .indirectX, 6⟩, ⟨0xB3#8, .indirectY, 5⟩, ⟨0xAB#8, .immediate, 2⟩] gateOn
    (fun o s => { afterRead o (afterRead o s) with a := o.byte s, x := o.byte s, p := setZN (o.byte s) s.p }) ∧
  RunsMemory [⟨0xBB#8, .absoluteY, 4⟩] gateOn
    (fun o s =>
      let v := o.byte s &&& s.sp
      { afterRead o s with a := v, x := v, sp := v, p := setZN v s.p })

/-- R242 to R246 (formulas from the spec, log 8). Completes: anc0B, anc2B, alr, arr, xaa, axs. -/
def Obligations.ImmediateCombinations : Prop :=
  RunsMemory [⟨0x0B#8, .immediate, 2⟩, ⟨0x2B#8, .immediate, 2⟩] gateOn (fun o s =>
    let v := s.a &&& o.byte s
    { afterRead o s with a := v, p := setFlag .carry v.msb (setZN v s.p) }) ∧
  RunsMemory [⟨0x4B#8, .immediate, 2⟩] gateOn (fun o s =>
    let v := s.a &&& o.byte s
    { afterRead o s with a := v >>> 1, p := setZN (v >>> 1) (setFlag .carry (v.getLsbD 0) s.p) }) ∧
  RunsMemory [⟨0x6B#8, .immediate, 2⟩] gateOn (fun o s =>
    let v := s.a &&& o.byte s
    let r : Byte := BitVec.ofBool (getFlag .carry s.p) ++ v.extractLsb' 1 7
    { afterRead o s with
      a := r
      p := setFlag .overflow (r.getLsbD 6 ^^ r.getLsbD 5) (setFlag .carry (r.getLsbD 6) (setZN r s.p)) }) ∧
  RunsMemory [⟨0x8B#8, .immediate, 2⟩] gateOn (fun o s =>
    { afterRead o s with a := s.x &&& o.byte s, p := setZN (s.x &&& o.byte s) s.p }) ∧
  RunsMemory [⟨0xCB#8, .immediate, 2⟩] gateOn (fun o s =>
    let v := s.a &&& s.x
    { afterRead o s with x := v - o.byte s, p := (compareBytes v (o.byte s) s.p).status })

/-- R247 to R250 (one choice of the spec among chip-dependent behaviours, U2, log 8). Completes: ahxAby, ahxIzy, shy,
shx, tas. -/
def Obligations.UnstableStores : Prop :=
  let h (o : MemOperand) : Byte := BitVec.ofNat 8 (o.ea.toNat / 256 + 1)
  RunsMemory [⟨0x9F#8, .absoluteYConst, 5⟩, ⟨0x93#8, .indirectYConst, 6⟩] gateOn
    (fun o s => afterWrite o (s.a &&& s.x &&& h o) s) ∧
  RunsMemory [⟨0x9C#8, .absoluteXConst, 5⟩] gateOn (fun o s => afterWrite o (s.y &&& h o) s) ∧
  RunsMemory [⟨0x9E#8, .absoluteYConst, 5⟩] gateOn (fun o s => afterWrite o (s.x &&& h o) s) ∧
  RunsMemory [⟨0x9B#8, .absoluteYConst, 5⟩] gateOn
    (fun o s => { afterWrite o (s.a &&& s.x &&& h o) s with sp := s.a &&& s.x })

/-- R252 and the spec's decision D9 (log 6). Completes: kil02, kil12, kil22, kil32, kil42, kil52, kil62, kil72, kil92,
kilB2, kilD2, kilF2. -/
def Obligations.KilHalts : Prop :=
  ∀ op ∈ [0x02#8, 0x12#8, 0x22#8, 0x32#8, 0x42#8, 0x52#8, 0x62#8, 0x72#8, 0x92#8, 0xB2#8, 0xD2#8, 0xF2#8],
    ∀ s : State, gateOn s →
      let t : State := { s with pc := s.pc + 1#16, halted := true, trace := .read s.pc op :: s.trace }
      (∀ i : Instr, i.row.opcode = op → exec i s = .next t) ∧
      (Dispatches s → s.byteAt s.pc = op → step s = .next t ∧ step t = .next t)

/-- The table of R30, every instruction, every flag; R28 for Break: only BRK among the instructions writes bits 4 and
5. -/
def Obligations.FlagWriters : Prop :=
  ∀ (i : Instr) (s t : State), exec i s = .next t →
    (∀ f : Flag, i.row.mnemonic ∉ f.writers → t.p &&& flagMask f = s.p &&& flagMask f) ∧
    (i.row.cls = .illegal → s.straps.illegalOpcodesEnabled = false → t.p = s.p)

/-- R21 to R24 and R26; the stack instructions move SP (R170, R171). -/
def Obligations.RegisterWriters : Prop :=
  ∀ (i : Instr) (s t : State), exec i s = .next t →
    (i.row.mnemonic ∉ [.adc, .sbc, .and, .ora, .eor, .lda, .pla, .txa, .tya, .asl, .lsr, .rol, .ror, .slo, .rla, .sre,
        .rra, .lax, .anc, .alr, .arr, .xaa, .las, .isc] → t.a = s.a) ∧
    (i.row.mnemonic ∈ [.asl, .lsr, .rol, .ror] → i.row.mode ≠ .implied → t.a = s.a) ∧
    (i.row.mnemonic ∉ [.ldx, .tax, .tsx, .inx, .dex, .lax, .axs, .las] → t.x = s.x) ∧
    (i.row.mnemonic ∉ [.ldy, .tay, .iny, .dey] → t.y = s.y) ∧
    (i.row.mnemonic ∉ [.txs, .tas, .las, .pha, .php, .pla, .plp, .jsr, .rts, .brk, .rti] → t.sp = s.sp) ∧
    (i.row.mnemonic ∉ [.bcc, .bcs, .beq, .bne, .bmi, .bpl, .bvc, .bvs, .jmp, .jsr, .rts, .rti, .brk] →
      t.pc = s.pc + BitVec.ofNat 16 i.size)

/-- R32 to R36 and R40: "no instruction reads or writes them, and only the engine rules do". -/
def Obligations.SequencerFrame : Prop :=
  ∀ (i : Instr) (s t : State), exec i s = .next t →
    t.pendingNmi = s.pendingNmi ∧ t.pendingIrq = s.pendingIrq ∧ t.totalCycles = s.totalCycles ∧
    t.straps = s.straps ∧ (s.halted = true → t.halted = true) ∧
    (¬(i.row.mnemonic = .kil ∧ gateOn s) → t.halted = s.halted)

/-- R59, R70, and R63 and R55(e) for what is read back, which rests on the RAM bus (log 1, DESIGN CHOICE); canonical
is the model's list form of memory, and the writes are those of the model's record (log 5). The effective address is
the resolver's, entered after the opcode fetch; stack addresses wrap inside page 1. -/
def Obligations.MemoryFrame : Prop :=
  ∀ (i : Instr) (s t : State), exec i s = .next t → s.mem.wf = true →
    (∃ accesses : List PortEvent, t.trace = accesses ++ s.trace ∧
      ∀ b : Addr, t.byteAt b = (lastWrite b accesses).getD (s.byteAt b)) ∧
    (∀ m, i.row.mode = .addr m →
      let ea := (resolve m i.byte1 i.byte2 (fetchOpcode i.row.opcode s)).opd.ea
      (i.row.mnemonic = .sta → t.byteAt ea = s.a) ∧ (i.row.mnemonic = .stx → t.byteAt ea = s.x) ∧
        (i.row.mnemonic = .sty → t.byteAt ea = s.y)) ∧
    (i.row.mnemonic = .pha → t.byteAt (stackAddr s.sp) = s.a) ∧
    (∀ m, i.row.mode = .addr m → i.row.mnemonic ∈ storesOperand →
      ∀ b : Addr, b ≠ (resolve m i.byte1 i.byte2 (fetchOpcode i.row.opcode s)).opd.ea → t.byteAt b = s.byteAt b) ∧
    (i.row.mnemonic = .pha ∨ i.row.mnemonic = .php →
      ∀ b : Addr, b ≠ stackAddr s.sp → t.byteAt b = s.byteAt b) ∧
    (i.row.mnemonic = .jsr →
      ∀ b : Addr, b ≠ stackAddr s.sp → b ≠ stackAddr (s.sp - 1#8) → t.byteAt b = s.byteAt b) ∧
    (i.row.mnemonic = .brk →
      ∀ b : Addr, b ≠ stackAddr s.sp → b ≠ stackAddr (s.sp - 1#8) → b ≠ stackAddr (s.sp - 2#8) →
        t.byteAt b = s.byteAt b) ∧
    (i.row.mnemonic ∉ storesOperand ∧ i.row.mnemonic ∉ storesStack ∨ i.row.mode = .implied ∧
        i.row.mnemonic ∈ storesOperand ∨ i.row.cls = .illegal ∧ s.straps.illegalOpcodesEnabled = false →
      ∀ b : Addr, t.byteAt b = s.byteAt b)

/-- The table of R59, and the rules of 49_nop_illegal.md with the gate on (the second read of LAX and of the
composites is D21). The addresses of the resolver's reads are in ResolveAbsoluteModes, ResolveZeroPageModes,
ResolveIndirectModes and ResolverFrame. The trace is the model's own record of the port (log 5). -/
def Obligations.BusAccessCount : Prop :=
  ∀ (i : Instr) (s t : State), exec i s = .next t → ∃ reads events : List PortEvent,
    t.trace = events ++ (reads ++ .read s.pc i.row.opcode :: s.trace) ∧
    reads.length = resolverReads i.row.mode ∧ (∀ e ∈ reads, ∃ a v, e = .read a v) ∧
    (i.row.cls = .legal ∨ gateOn s →
      events.reverse.map PortEvent.access = (semanticAccesses (targetAddress i s) s.sp i.row.mnemonic).map some) ∧
    (i.row.cls = .illegal → s.straps.illegalOpcodesEnabled = false → events = [.diagnostic i.row.opcode])

/-- R276 and R272; addresses wrap modulo 65536 (R26). -/
def Obligations.StepRunsDecoded : Prop :=
  ∀ (s : State) (i : Instr) (rest : List Byte), Dispatches s →
    decode [s.byteAt s.pc, s.byteAt (s.pc + 1#16), s.byteAt (s.pc + 2#16)] = .ok (i, rest) →
    ∃ t, exec i s = .next t ∧ step s = .next
      (if t.halted then t
      else { t with remainingCycles := t.remainingCycles - 1#8, totalCycles := t.totalCycles + 1 })

/-- R276, last paragraph (the spec's decision D26), and R275. -/
def Obligations.CountdownTick : Prop :=
  ∀ s : State, s.halted = false → s.remainingCycles ≠ 0x00#8 →
    step s = .next { s with remainingCycles := s.remainingCycles - 1#8, totalCycles := s.totalCycles + 1 }

/-- R271, R324 and R40 (the spec's decision D9; log 6). -/
def Obligations.HaltIsTerminal : Prop :=
  ∀ s : State, s.halted = true →
    Terminal s ∧
    (∀ es : List Input, Input.reset ∉ es → ∃ t, runInputs es s = .next t ∧ t.halted = true ∧
      (t.a, t.x, t.y, t.sp, t.p, t.mem, t.straps, t.remainingCycles, t.totalCycles, t.trace) =
        (s.a, s.x, s.y, s.sp, s.p, s.mem, s.straps, s.remainingCycles, s.totalCycles, s.trace) ∧
      ((∀ v, Input.loadPc v ∉ es) → t.pc = s.pc)) ∧
    ∃ t, advance .reset s = .next t ∧ t.halted = false

/-- R296 with the check of R294; the mask is the strap INT_PUSH_BREAK_MASK, either value. -/
def Obligations.InterruptService : Prop :=
  ∀ s : State, s.halted = false → s.remainingCycles = 0x00#8 →
    let stacked := s.p ||| s.straps.intPushBreakMask.toByte
    (s.pendingNmi = true →
      step s = .next
        { entered s.pc stacked (s.p ||| 0x04#8) 0xFFFA#16 s with
          pendingNmi := false, remainingCycles := 7#8, totalCycles := s.totalCycles + 1 }) ∧
    (s.pendingNmi = false → s.pendingIrq = true → s.p.getLsbD 2 = false →
      step s = .next
        { entered s.pc stacked (s.p ||| 0x04#8) 0xFFFE#16 s with
          pendingIrq := false, remainingCycles := 6#8, totalCycles := s.totalCycles + 1 })

/-- R293 to R295, R34, R35, R311 (the spec's decisions D16 and D8). -/
def Obligations.MaskedIrqWaits : Prop :=
  ∀ s t : State,
    (step s = .next t →
      (s.p.getLsbD 2 = true → t.pendingIrq = s.pendingIrq) ∧
      (t.pendingIrq ≠ s.pendingIrq → s.pendingIrq = true ∧ s.halted = false ∧ s.remainingCycles = 0x00#8 ∧
        s.pendingNmi = false ∧ s.p.getLsbD 2 = false) ∧
      (t.pendingNmi ≠ s.pendingNmi → s.pendingNmi = true ∧ s.halted = false ∧ s.remainingCycles = 0x00#8)) ∧
    (advance .reset s = .next t → t.pendingNmi = s.pendingNmi ∧ t.pendingIrq = s.pendingIrq)

/-- R298, R299. The handler is the RTI alone; a handler that keeps SP and the three stacked bytes comes to the same.
That the stacked PC and P read back as stacked rests on the RAM bus (log 1, DESIGN CHOICE), and the RTI here runs with
the service's cycles still counting down (log 14, DESIGN CHOICE). -/
def Obligations.ServiceThenReturn : Prop :=
  ∀ s t : State, s.mem.wf = true → s.halted = false → s.remainingCycles = 0x00#8 →
    (s.pendingNmi = true ∨ s.pendingIrq = true ∧ s.p.getLsbD 2 = false) → step s = .next t →
    t.p.getLsbD 2 = true ∧
    ∃ u, exec .rti t = .next u ∧ u.pc = s.pc ∧ u.sp = s.sp ∧ u.p = s.p ∧ u.a = s.a ∧ u.x = s.x ∧ u.y = s.y

/-- R290 ("the hardware raises no synchronous exception"), R282, R278 (the fuel of the drain never runs out, log 13).
That a tick of a halted machine answers a next state, and not a fault, is the model's choice (R40 allows either; log
6, DEDUCED), and so is the empty fault type (log 15, DEDUCED); the halted state is the spec's decision D9. -/
def Obligations.NeverStops : Prop :=
  (∀ (i : Instr) (s : State), Completes (exec i s)) ∧ (∀ s : State, Completes (step s)) ∧
  (∀ (es : List Input) (s : State), Completes (runInputs es s)) ∧
  (∀ s : State, ∃ t, executeInstruction s = .next t ∧ (t.halted = true ∨ t.remainingCycles = 0x00#8))

/-- R44, R42, R28, R32 and R40. The straps of State.reset are the model's (log 4), and which state it is is log 3. The
clause on memory is about the model's own list form (logs 1 and 2); the clause on halted is the spec's decision D9
(log 6). -/
def Obligations.InvariantAtReset : Prop :=
  Inv State.reset ∧
  ∀ (cfg : Config) (mem : Memory), mem.wf = true →
    Inv (powerOnDefault cfg mem) ∧ (∀ pc, Inv (powerOn cfg pc mem)) ∧ Inv (powerOnFromVector cfg mem)

/-- R28 ("in the live register bit 5 is 1 at all times"), R32, R42, R40, R252. The clause on memory is about the
model's own list form (logs 1 and 2); the clause on halted is the spec's decision D9 (log 6). -/
def Obligations.InvariantKeptByStep : Prop :=
  ∀ s t : State, Inv s → step s = .next t → Inv t

/-- R270, R42, R28, R32, R40, R322, R324. The clause on memory is about the model's own list form (logs 1 and 2); the
clause on halted is the spec's decision D9 (log 6). -/
def Obligations.InvariantKeptByInputs : Prop :=
  ∀ (es : List Input) (s t : State), Inv s → runInputs es s = .next t → Inv t

/-- R277 and R274. -/
def Obligations.TicksPerInstruction : Prop :=
  ∀ s t : State, Dispatches s → exec (fetchedInstr s) s = .next t → t.halted = false →
    ∃ n : Nat, 2 ≤ n ∧ n ≤ 8 ∧ t.remainingCycles = BitVec.ofNat 8 n ∧
      ∀ k, 0 < k → k ≤ n → runInputs (List.replicate k .tick) s =
        .next { t with remainingCycles := BitVec.ofNat 8 (n - k), totalCycles := s.totalCycles + k }

/-- R322, R323 (latches kept: D8; halt cleared: D9). That State.reset is this event after power-on is the model's
choice (log 3). -/
def Obligations.ResetEvent : Prop :=
  (∀ s : State,
    let lo := s.mem.read 0xFFFC
    let hi := s.mem.read 0xFFFD
    let t : State :=
      { s with
        a := 0x00#8, x := 0x00#8, y := 0x00#8, sp := 0xFD#8, p := s.straps.bootStatus.toByte, pc := word hi lo,
        remainingCycles := 8#8, halted := false,
        trace := .read 0xFFFD#16 hi :: .read 0xFFFC#16 lo :: s.trace }
    advance .reset s = .next t ∧
    runInputs (List.replicate 8 .tick) t =
      .next { t with remainingCycles := 0x00#8, totalCycles := s.totalCycles + 8 }) ∧
  advance .reset (powerOn Config.atReset 0x0400#16 []) = .next State.reset

/-- R292, R293 (the spec's decision D17), R279 (D15). -/
def Obligations.RequestsAndPcLoad : Prop :=
  ∀ s : State,
    advance .nmiRequest s = .next { s with pendingNmi := true } ∧
    advance .irqRequest s = .next { s with pendingIrq := true } ∧
    runInputs [.nmiRequest, .nmiRequest] s = runInputs [.nmiRequest] s ∧
    runInputs [.irqRequest, .irqRequest] s = runInputs [.irqRequest] s ∧
    ∀ v : Addr, advance (.loadPc v) s = .next { s with pc := v }

/-- R320 (counters, latches and halted at power-on are the spec's decision D7). -/
def Obligations.PowerOnForms : Prop :=
  ∀ (cfg : Config) (mem : Memory),
    let base (pc : Addr) (trace : List PortEvent) : State :=
      { a := 0x00#8, x := 0x00#8, y := 0x00#8, sp := 0xFD#8, p := cfg.bootStatus.toByte, pc := pc,
        remainingCycles := 0x00#8, totalCycles := 0, pendingNmi := false, pendingIrq := false, halted := false,
        mem := mem, straps := cfg, trace := trace }
    powerOnDefault cfg mem = base 0x0400#16 [] ∧ (∀ pc, powerOn cfg pc mem = base pc []) ∧
    powerOnFromVector cfg mem =
      base (word (mem.read 0xFFFD) (mem.read 0xFFFC))
        [.read 0xFFFD#16 (mem.read 0xFFFD), .read 0xFFFC#16 (mem.read 0xFFFC)]

/-- R33: "for external tracing, not used by logic"; the unbounded counter is the spec's decision D10. That a halted
tick and the tick that halts do not count is R271 and R252, the spec's decision D9 (log 6, DEDUCED). -/
def Obligations.TotalCyclesUnused : Prop :=
  ∀ (s t : State) (n : Nat), step s = .next t →
    (t.halted = false → t.totalCycles = s.totalCycles + 1) ∧ (t.halted = true → t.totalCycles = s.totalCycles) ∧
    ∃ d, t.totalCycles = s.totalCycles + d ∧
      step { s with totalCycles := n } = .next { t with totalCycles := n + d }
end

