-- ==== Sys2Proof/Laws/Memory.lean ====
section
/-! SUPPORT. The laws of the memory list: read after write, and that a write keeps the canonical form. -/

namespace Sys2Proof.Machine

@[simp] theorem Memory.read_nil (k : Nat) : Memory.read [] k = unlistedByte k := rfl

theorem Memory.read_below {lo : Nat} {m : Memory} (h : Memory.wfFrom lo m = true) {k : Nat} (hk : k < lo) :
    Memory.read m k = unlistedByte k := by
  induction m generalizing lo with
  | nil => rfl
  | cons e m ih =>
    obtain ⟨k', v'⟩ := e
    simp only [Memory.wfFrom, Bool.and_eq_true, decide_eq_true_eq] at h
    have hne : k' ≠ k := by omega
    simp only [Memory.read, hne, if_false]
    exact ih h.2 (by omega)

/-- A canonical list with all addresses at least `lo` is canonical for any smaller bound. -/
theorem Memory.wfFrom_mono {lo lo' : Nat} {m : Memory} (h : Memory.wfFrom lo m = true) (hl : lo' ≤ lo) :
    Memory.wfFrom lo' m = true := by
  cases m with
  | nil => rfl
  | cons e m =>
    obtain ⟨k, v⟩ := e
    simp only [Memory.wfFrom, Bool.and_eq_true, decide_eq_true_eq] at h ⊢
    exact ⟨⟨⟨by omega, h.1.1.2⟩, h.1.2⟩, h.2⟩

theorem Memory.wfFrom_write {lo : Nat} {m : Memory} (h : Memory.wfFrom lo m = true) {k : Nat} (v : Byte)
    (hlo : lo ≤ k) (hk : k < addressSpace) : Memory.wfFrom lo (Memory.write m k v) = true := by
  induction m generalizing lo with
  | nil =>
    by_cases hv : v = unlistedByte k <;> simp [Memory.write, Memory.wfFrom, hv, hlo, hk]
  | cons e m ih =>
    obtain ⟨k', v'⟩ := e
    simp only [Memory.wfFrom, Bool.and_eq_true, decide_eq_true_eq] at h
    obtain ⟨⟨⟨h1, h2⟩, h3⟩, h4⟩ := h
    rcases Nat.lt_trichotomy k k' with hlt | heq | hgt
    · by_cases hv : v = unlistedByte k
      · simp only [Memory.write, hlt, hv, if_true, Memory.wfFrom, Bool.and_eq_true, decide_eq_true_eq]
        exact ⟨⟨⟨h1, h2⟩, h3⟩, h4⟩
      · simp only [Memory.write, hlt, hv, if_true, if_false, Memory.wfFrom, Bool.and_eq_true, decide_eq_true_eq]
        exact ⟨⟨⟨hlo, hk⟩, hv⟩, ⟨⟨by omega, h2⟩, h3⟩, h4⟩
    · subst heq
      by_cases hv : v = unlistedByte k
      · simp only [Memory.write, Nat.lt_irrefl, hv, if_true, if_false]
        exact Memory.wfFrom_mono h4 (by omega)
      · simp only [Memory.write, Nat.lt_irrefl, hv, if_true, if_false, Memory.wfFrom, Bool.and_eq_true,
          decide_eq_true_eq]
        exact ⟨⟨⟨hlo, hk⟩, hv⟩, h4⟩
    · have hn : ¬ k < k' := by omega
      have hne : k ≠ k' := by omega
      simp only [Memory.write, hn, hne, if_false, Memory.wfFrom, Bool.and_eq_true, decide_eq_true_eq]
      exact ⟨⟨⟨h1, h2⟩, h3⟩, ih h4 (by omega)⟩

/-- A write inside the address space keeps the canonical form. -/
theorem Memory.wf_write {m : Memory} (h : m.wf = true) {k : Nat} (v : Byte) (hk : k < addressSpace) :
    (m.write k v).wf = true :=
  Memory.wfFrom_write h v (Nat.zero_le k) hk

theorem Memory.wfFrom_read_write {lo : Nat} {m : Memory} (h : Memory.wfFrom lo m = true) (k : Nat) (v : Byte)
    (j : Nat) : Memory.read (Memory.write m k v) j = if j = k then v else Memory.read m j := by
  induction m generalizing lo with
  | nil =>
    by_cases hv : v = unlistedByte k <;> by_cases hj : j = k
    · subst hj; simp [Memory.write, hv]
    · simp [Memory.write, hv, hj]
    · subst hj; simp [Memory.write, Memory.read, hv]
    · have : k ≠ j := fun e => hj e.symm
      simp [Memory.write, Memory.read, hv, hj, this]
  | cons e m ih =>
    obtain ⟨k', v'⟩ := e
    simp only [Memory.wfFrom, Bool.and_eq_true, decide_eq_true_eq] at h
    obtain ⟨⟨⟨h1, h2⟩, h3⟩, h4⟩ := h
    rcases Nat.lt_trichotomy k k' with hlt | heq | hgt
    · have hb : Memory.read m k = unlistedByte k := Memory.read_below h4 (by omega)
      have hk' : k' ≠ k := by omega
      by_cases hv : v = unlistedByte k
      · by_cases hj : j = k
        · subst hj; simp [Memory.write, hlt, hv, Memory.read, hk', hb]
        · simp [Memory.write, hlt, hv, hj]
      · by_cases hj : j = k
        · subst hj; simp [Memory.write, hlt, hv, Memory.read]
        · have : k ≠ j := fun e => hj e.symm
          simp [Memory.write, hlt, hv, Memory.read, hj, this]
    · subst heq
      by_cases hv : v = unlistedByte k
      · by_cases hj : j = k
        · subst hj
          simp [Memory.write, hv, Memory.read_below h4 (Nat.lt_succ_self j)]
        · have : k ≠ j := fun e => hj e.symm
          simp [Memory.write, hv, Memory.read, hj, this]
      · by_cases hj : j = k
        · subst hj; simp [Memory.write, hv, Memory.read]
        · have : k ≠ j := fun e => hj e.symm
          simp [Memory.write, hv, Memory.read, hj, this]
    · have hn : ¬ k < k' := by omega
      have hne : k ≠ k' := by omega
      simp only [Memory.write, hn, hne, if_false, Memory.read]
      by_cases hj : k' = j
      · have : j ≠ k := by omega
        simp [hj, this]
      · simp only [hj, if_false]
        exact ih h4

/-- Read after write, at the same place and at any other, in a canonical memory. -/
theorem Memory.read_write {m : Memory} (h : m.wf = true) (k : Nat) (v : Byte) (j : Nat) :
    (m.write k v).read j = if j = k then v else m.read j :=
  Memory.wfFrom_read_write h k v j

end Sys2Proof.Machine
end

