-- ==== Sys2Proof/Laws/State.lean ====
section
/-! SUPPORT. For each named update of the state, what every field is after it. -/

namespace Sys2Proof.Machine

@[simp] theorem memRead_fst (addr : Addr) (s : State) : (memRead addr s).1 = s.byteAt addr := rfl
@[simp] theorem read16_fst (addr : Addr) (s : State) :
    (read16 addr s).1 = word (s.byteAt (addr + 1#16)) (s.byteAt addr) := rfl
@[simp] theorem pop_fst (s : State) : (pop s).1 = s.byteAt (stackAddr (s.sp + 1#8)) := rfl
@[simp] theorem readOperand_fst (o : MemOperand) (s : State) : (readOperand o s).1 = o.byte s := rfl

@[simp] theorem record_a (e : PortEvent) (s : State) : (record e s).a = s.a := rfl
@[simp] theorem record_x (e : PortEvent) (s : State) : (record e s).x = s.x := rfl
@[simp] theorem record_y (e : PortEvent) (s : State) : (record e s).y = s.y := rfl
@[simp] theorem record_sp (e : PortEvent) (s : State) : (record e s).sp = s.sp := rfl
@[simp] theorem record_p (e : PortEvent) (s : State) : (record e s).p = s.p := rfl
@[simp] theorem record_pc (e : PortEvent) (s : State) : (record e s).pc = s.pc := rfl
@[simp] theorem record_remainingCycles (e : PortEvent) (s : State) : (record e s).remainingCycles = s.remainingCycles := rfl
@[simp] theorem record_totalCycles (e : PortEvent) (s : State) : (record e s).totalCycles = s.totalCycles := rfl
@[simp] theorem record_pendingNmi (e : PortEvent) (s : State) : (record e s).pendingNmi = s.pendingNmi := rfl
@[simp] theorem record_pendingIrq (e : PortEvent) (s : State) : (record e s).pendingIrq = s.pendingIrq := rfl
@[simp] theorem record_halted (e : PortEvent) (s : State) : (record e s).halted = s.halted := rfl
@[simp] theorem record_mem (e : PortEvent) (s : State) : (record e s).mem = s.mem := rfl
@[simp] theorem record_straps (e : PortEvent) (s : State) : (record e s).straps = s.straps := rfl
@[simp] theorem record_trace (e : PortEvent) (s : State) : (record e s).trace = e :: s.trace := rfl

@[simp] theorem memRead_snd_a (addr : Addr) (s : State) : (memRead addr s).2.a = s.a := rfl
@[simp] theorem memRead_snd_x (addr : Addr) (s : State) : (memRead addr s).2.x = s.x := rfl
@[simp] theorem memRead_snd_y (addr : Addr) (s : State) : (memRead addr s).2.y = s.y := rfl
@[simp] theorem memRead_snd_sp (addr : Addr) (s : State) : (memRead addr s).2.sp = s.sp := rfl
@[simp] theorem memRead_snd_p (addr : Addr) (s : State) : (memRead addr s).2.p = s.p := rfl
@[simp] theorem memRead_snd_pc (addr : Addr) (s : State) : (memRead addr s).2.pc = s.pc := rfl
@[simp] theorem memRead_snd_remainingCycles (addr : Addr) (s : State) : (memRead addr s).2.remainingCycles = s.remainingCycles := rfl
@[simp] theorem memRead_snd_totalCycles (addr : Addr) (s : State) : (memRead addr s).2.totalCycles = s.totalCycles := rfl
@[simp] theorem memRead_snd_pendingNmi (addr : Addr) (s : State) : (memRead addr s).2.pendingNmi = s.pendingNmi := rfl
@[simp] theorem memRead_snd_pendingIrq (addr : Addr) (s : State) : (memRead addr s).2.pendingIrq = s.pendingIrq := rfl
@[simp] theorem memRead_snd_halted (addr : Addr) (s : State) : (memRead addr s).2.halted = s.halted := rfl
@[simp] theorem memRead_snd_mem (addr : Addr) (s : State) : (memRead addr s).2.mem = s.mem := rfl
@[simp] theorem memRead_snd_straps (addr : Addr) (s : State) : (memRead addr s).2.straps = s.straps := rfl
@[simp] theorem memRead_snd_trace (addr : Addr) (s : State) : (memRead addr s).2.trace = .read addr (s.byteAt addr) :: s.trace := rfl

@[simp] theorem memWrite_a (addr : Addr) (v : Byte) (s : State) : (memWrite addr v s).a = s.a := rfl
@[simp] theorem memWrite_x (addr : Addr) (v : Byte) (s : State) : (memWrite addr v s).x = s.x := rfl
@[simp] theorem memWrite_y (addr : Addr) (v : Byte) (s : State) : (memWrite addr v s).y = s.y := rfl
@[simp] theorem memWrite_sp (addr : Addr) (v : Byte) (s : State) : (memWrite addr v s).sp = s.sp := rfl
@[simp] theorem memWrite_p (addr : Addr) (v : Byte) (s : State) : (memWrite addr v s).p = s.p := rfl
@[simp] theorem memWrite_pc (addr : Addr) (v : Byte) (s : State) : (memWrite addr v s).pc = s.pc := rfl
@[simp] theorem memWrite_remainingCycles (addr : Addr) (v : Byte) (s : State) : (memWrite addr v s).remainingCycles = s.remainingCycles := rfl
@[simp] theorem memWrite_totalCycles (addr : Addr) (v : Byte) (s : State) : (memWrite addr v s).totalCycles = s.totalCycles := rfl
@[simp] theorem memWrite_pendingNmi (addr : Addr) (v : Byte) (s : State) : (memWrite addr v s).pendingNmi = s.pendingNmi := rfl
@[simp] theorem memWrite_pendingIrq (addr : Addr) (v : Byte) (s : State) : (memWrite addr v s).pendingIrq = s.pendingIrq := rfl
@[simp] theorem memWrite_halted (addr : Addr) (v : Byte) (s : State) : (memWrite addr v s).halted = s.halted := rfl
@[simp] theorem memWrite_mem (addr : Addr) (v : Byte) (s : State) : (memWrite addr v s).mem = s.mem.write addr.toNat v := rfl
@[simp] theorem memWrite_straps (addr : Addr) (v : Byte) (s : State) : (memWrite addr v s).straps = s.straps := rfl
@[simp] theorem memWrite_trace (addr : Addr) (v : Byte) (s : State) : (memWrite addr v s).trace = .write addr v :: s.trace := rfl

@[simp] theorem read16_snd_a (addr : Addr) (s : State) : (read16 addr s).2.a = s.a := rfl
@[simp] theorem read16_snd_x (addr : Addr) (s : State) : (read16 addr s).2.x = s.x := rfl
@[simp] theorem read16_snd_y (addr : Addr) (s : State) : (read16 addr s).2.y = s.y := rfl
@[simp] theorem read16_snd_sp (addr : Addr) (s : State) : (read16 addr s).2.sp = s.sp := rfl
@[simp] theorem read16_snd_p (addr : Addr) (s : State) : (read16 addr s).2.p = s.p := rfl
@[simp] theorem read16_snd_pc (addr : Addr) (s : State) : (read16 addr s).2.pc = s.pc := rfl
@[simp] theorem read16_snd_remainingCycles (addr : Addr) (s : State) : (read16 addr s).2.remainingCycles = s.remainingCycles := rfl
@[simp] theorem read16_snd_totalCycles (addr : Addr) (s : State) : (read16 addr s).2.totalCycles = s.totalCycles := rfl
@[simp] theorem read16_snd_pendingNmi (addr : Addr) (s : State) : (read16 addr s).2.pendingNmi = s.pendingNmi := rfl
@[simp] theorem read16_snd_pendingIrq (addr : Addr) (s : State) : (read16 addr s).2.pendingIrq = s.pendingIrq := rfl
@[simp] theorem read16_snd_halted (addr : Addr) (s : State) : (read16 addr s).2.halted = s.halted := rfl
@[simp] theorem read16_snd_mem (addr : Addr) (s : State) : (read16 addr s).2.mem = s.mem := rfl
@[simp] theorem read16_snd_straps (addr : Addr) (s : State) : (read16 addr s).2.straps = s.straps := rfl
@[simp] theorem read16_snd_trace (addr : Addr) (s : State) : (read16 addr s).2.trace = .read (addr + 1#16) (s.byteAt (addr + 1#16)) :: .read addr (s.byteAt addr) :: s.trace := rfl

@[simp] theorem push_a (v : Byte) (s : State) : (push v s).a = s.a := rfl
@[simp] theorem push_x (v : Byte) (s : State) : (push v s).x = s.x := rfl
@[simp] theorem push_y (v : Byte) (s : State) : (push v s).y = s.y := rfl
@[simp] theorem push_sp (v : Byte) (s : State) : (push v s).sp = s.sp - 1#8 := rfl
@[simp] theorem push_p (v : Byte) (s : State) : (push v s).p = s.p := rfl
@[simp] theorem push_pc (v : Byte) (s : State) : (push v s).pc = s.pc := rfl
@[simp] theorem push_remainingCycles (v : Byte) (s : State) : (push v s).remainingCycles = s.remainingCycles := rfl
@[simp] theorem push_totalCycles (v : Byte) (s : State) : (push v s).totalCycles = s.totalCycles := rfl
@[simp] theorem push_pendingNmi (v : Byte) (s : State) : (push v s).pendingNmi = s.pendingNmi := rfl
@[simp] theorem push_pendingIrq (v : Byte) (s : State) : (push v s).pendingIrq = s.pendingIrq := rfl
@[simp] theorem push_halted (v : Byte) (s : State) : (push v s).halted = s.halted := rfl
@[simp] theorem push_mem (v : Byte) (s : State) : (push v s).mem = s.mem.write (stackAddr s.sp).toNat v := rfl
@[simp] theorem push_straps (v : Byte) (s : State) : (push v s).straps = s.straps := rfl
@[simp] theorem push_trace (v : Byte) (s : State) : (push v s).trace = .write (stackAddr s.sp) v :: s.trace := rfl

@[simp] theorem pop_snd_a (s : State) : (pop s).2.a = s.a := rfl
@[simp] theorem pop_snd_x (s : State) : (pop s).2.x = s.x := rfl
@[simp] theorem pop_snd_y (s : State) : (pop s).2.y = s.y := rfl
@[simp] theorem pop_snd_sp (s : State) : (pop s).2.sp = s.sp + 1#8 := rfl
@[simp] theorem pop_snd_p (s : State) : (pop s).2.p = s.p := rfl
@[simp] theorem pop_snd_pc (s : State) : (pop s).2.pc = s.pc := rfl
@[simp] theorem pop_snd_remainingCycles (s : State) : (pop s).2.remainingCycles = s.remainingCycles := rfl
@[simp] theorem pop_snd_totalCycles (s : State) : (pop s).2.totalCycles = s.totalCycles := rfl
@[simp] theorem pop_snd_pendingNmi (s : State) : (pop s).2.pendingNmi = s.pendingNmi := rfl
@[simp] theorem pop_snd_pendingIrq (s : State) : (pop s).2.pendingIrq = s.pendingIrq := rfl
@[simp] theorem pop_snd_halted (s : State) : (pop s).2.halted = s.halted := rfl
@[simp] theorem pop_snd_mem (s : State) : (pop s).2.mem = s.mem := rfl
@[simp] theorem pop_snd_straps (s : State) : (pop s).2.straps = s.straps := rfl
@[simp] theorem pop_snd_trace (s : State) : (pop s).2.trace = .read (stackAddr (s.sp + 1#8)) (s.byteAt (stackAddr (s.sp + 1#8))) :: s.trace := rfl

@[simp] theorem fetchOpcode_a (op : Byte) (s : State) : (fetchOpcode op s).a = s.a := rfl
@[simp] theorem fetchOpcode_x (op : Byte) (s : State) : (fetchOpcode op s).x = s.x := rfl
@[simp] theorem fetchOpcode_y (op : Byte) (s : State) : (fetchOpcode op s).y = s.y := rfl
@[simp] theorem fetchOpcode_sp (op : Byte) (s : State) : (fetchOpcode op s).sp = s.sp := rfl
@[simp] theorem fetchOpcode_p (op : Byte) (s : State) : (fetchOpcode op s).p = s.p := rfl
@[simp] theorem fetchOpcode_pc (op : Byte) (s : State) : (fetchOpcode op s).pc = s.pc + 1#16 := rfl
@[simp] theorem fetchOpcode_remainingCycles (op : Byte) (s : State) : (fetchOpcode op s).remainingCycles = s.remainingCycles := rfl
@[simp] theorem fetchOpcode_totalCycles (op : Byte) (s : State) : (fetchOpcode op s).totalCycles = s.totalCycles := rfl
@[simp] theorem fetchOpcode_pendingNmi (op : Byte) (s : State) : (fetchOpcode op s).pendingNmi = s.pendingNmi := rfl
@[simp] theorem fetchOpcode_pendingIrq (op : Byte) (s : State) : (fetchOpcode op s).pendingIrq = s.pendingIrq := rfl
@[simp] theorem fetchOpcode_halted (op : Byte) (s : State) : (fetchOpcode op s).halted = s.halted := rfl
@[simp] theorem fetchOpcode_mem (op : Byte) (s : State) : (fetchOpcode op s).mem = s.mem := rfl
@[simp] theorem fetchOpcode_straps (op : Byte) (s : State) : (fetchOpcode op s).straps = s.straps := rfl
@[simp] theorem fetchOpcode_trace (op : Byte) (s : State) : (fetchOpcode op s).trace = .read s.pc op :: s.trace := rfl

@[simp] theorem fetchOperand_a (v : Byte) (s : State) : (fetchOperand v s).a = s.a := rfl
@[simp] theorem fetchOperand_x (v : Byte) (s : State) : (fetchOperand v s).x = s.x := rfl
@[simp] theorem fetchOperand_y (v : Byte) (s : State) : (fetchOperand v s).y = s.y := rfl
@[simp] theorem fetchOperand_sp (v : Byte) (s : State) : (fetchOperand v s).sp = s.sp := rfl
@[simp] theorem fetchOperand_p (v : Byte) (s : State) : (fetchOperand v s).p = s.p := rfl
@[simp] theorem fetchOperand_pc (v : Byte) (s : State) : (fetchOperand v s).pc = s.pc + 1#16 := rfl
@[simp] theorem fetchOperand_remainingCycles (v : Byte) (s : State) : (fetchOperand v s).remainingCycles = s.remainingCycles := rfl
@[simp] theorem fetchOperand_totalCycles (v : Byte) (s : State) : (fetchOperand v s).totalCycles = s.totalCycles := rfl
@[simp] theorem fetchOperand_pendingNmi (v : Byte) (s : State) : (fetchOperand v s).pendingNmi = s.pendingNmi := rfl
@[simp] theorem fetchOperand_pendingIrq (v : Byte) (s : State) : (fetchOperand v s).pendingIrq = s.pendingIrq := rfl
@[simp] theorem fetchOperand_halted (v : Byte) (s : State) : (fetchOperand v s).halted = s.halted := rfl
@[simp] theorem fetchOperand_mem (v : Byte) (s : State) : (fetchOperand v s).mem = s.mem := rfl
@[simp] theorem fetchOperand_straps (v : Byte) (s : State) : (fetchOperand v s).straps = s.straps := rfl
@[simp] theorem fetchOperand_trace (v : Byte) (s : State) : (fetchOperand v s).trace = .read s.pc v :: s.trace := rfl

@[simp] theorem addCycles_a (n : Nat) (s : State) : (addCycles n s).a = s.a := rfl
@[simp] theorem addCycles_x (n : Nat) (s : State) : (addCycles n s).x = s.x := rfl
@[simp] theorem addCycles_y (n : Nat) (s : State) : (addCycles n s).y = s.y := rfl
@[simp] theorem addCycles_sp (n : Nat) (s : State) : (addCycles n s).sp = s.sp := rfl
@[simp] theorem addCycles_p (n : Nat) (s : State) : (addCycles n s).p = s.p := rfl
@[simp] theorem addCycles_pc (n : Nat) (s : State) : (addCycles n s).pc = s.pc := rfl
@[simp] theorem addCycles_remainingCycles (n : Nat) (s : State) : (addCycles n s).remainingCycles = s.remainingCycles + BitVec.ofNat 8 n := rfl
@[simp] theorem addCycles_totalCycles (n : Nat) (s : State) : (addCycles n s).totalCycles = s.totalCycles := rfl
@[simp] theorem addCycles_pendingNmi (n : Nat) (s : State) : (addCycles n s).pendingNmi = s.pendingNmi := rfl
@[simp] theorem addCycles_pendingIrq (n : Nat) (s : State) : (addCycles n s).pendingIrq = s.pendingIrq := rfl
@[simp] theorem addCycles_halted (n : Nat) (s : State) : (addCycles n s).halted = s.halted := rfl
@[simp] theorem addCycles_mem (n : Nat) (s : State) : (addCycles n s).mem = s.mem := rfl
@[simp] theorem addCycles_straps (n : Nat) (s : State) : (addCycles n s).straps = s.straps := rfl
@[simp] theorem addCycles_trace (n : Nat) (s : State) : (addCycles n s).trace = s.trace := rfl

@[simp] theorem endTick_a (s : State) : (endTick s).a = s.a := rfl
@[simp] theorem endTick_x (s : State) : (endTick s).x = s.x := rfl
@[simp] theorem endTick_y (s : State) : (endTick s).y = s.y := rfl
@[simp] theorem endTick_sp (s : State) : (endTick s).sp = s.sp := rfl
@[simp] theorem endTick_p (s : State) : (endTick s).p = s.p := rfl
@[simp] theorem endTick_pc (s : State) : (endTick s).pc = s.pc := rfl
@[simp] theorem endTick_remainingCycles (s : State) : (endTick s).remainingCycles = s.remainingCycles - 1#8 := rfl
@[simp] theorem endTick_totalCycles (s : State) : (endTick s).totalCycles = s.totalCycles + 1 := rfl
@[simp] theorem endTick_pendingNmi (s : State) : (endTick s).pendingNmi = s.pendingNmi := rfl
@[simp] theorem endTick_pendingIrq (s : State) : (endTick s).pendingIrq = s.pendingIrq := rfl
@[simp] theorem endTick_halted (s : State) : (endTick s).halted = s.halted := rfl
@[simp] theorem endTick_mem (s : State) : (endTick s).mem = s.mem := rfl
@[simp] theorem endTick_straps (s : State) : (endTick s).straps = s.straps := rfl
@[simp] theorem endTick_trace (s : State) : (endTick s).trace = s.trace := rfl

@[simp] theorem readOperand_snd_a (o : MemOperand) (s : State) : (readOperand o s).2.a = s.a := rfl
@[simp] theorem readOperand_snd_x (o : MemOperand) (s : State) : (readOperand o s).2.x = s.x := rfl
@[simp] theorem readOperand_snd_y (o : MemOperand) (s : State) : (readOperand o s).2.y = s.y := rfl
@[simp] theorem readOperand_snd_sp (o : MemOperand) (s : State) : (readOperand o s).2.sp = s.sp := rfl
@[simp] theorem readOperand_snd_p (o : MemOperand) (s : State) : (readOperand o s).2.p = s.p := rfl
@[simp] theorem readOperand_snd_pc (o : MemOperand) (s : State) : (readOperand o s).2.pc = s.pc := rfl
@[simp] theorem readOperand_snd_remainingCycles (o : MemOperand) (s : State) : (readOperand o s).2.remainingCycles = s.remainingCycles := rfl
@[simp] theorem readOperand_snd_totalCycles (o : MemOperand) (s : State) : (readOperand o s).2.totalCycles = s.totalCycles := rfl
@[simp] theorem readOperand_snd_pendingNmi (o : MemOperand) (s : State) : (readOperand o s).2.pendingNmi = s.pendingNmi := rfl
@[simp] theorem readOperand_snd_pendingIrq (o : MemOperand) (s : State) : (readOperand o s).2.pendingIrq = s.pendingIrq := rfl
@[simp] theorem readOperand_snd_halted (o : MemOperand) (s : State) : (readOperand o s).2.halted = s.halted := rfl
@[simp] theorem readOperand_snd_mem (o : MemOperand) (s : State) : (readOperand o s).2.mem = s.mem := rfl
@[simp] theorem readOperand_snd_straps (o : MemOperand) (s : State) : (readOperand o s).2.straps = s.straps := rfl
@[simp] theorem readOperand_snd_trace (o : MemOperand) (s : State) : (readOperand o s).2.trace = .read o.ea (o.byte s) :: s.trace := rfl

@[simp] theorem setAZN_a (v : Byte) (s : State) : (setAZN v s).a = v := rfl
@[simp] theorem setAZN_x (v : Byte) (s : State) : (setAZN v s).x = s.x := rfl
@[simp] theorem setAZN_y (v : Byte) (s : State) : (setAZN v s).y = s.y := rfl
@[simp] theorem setAZN_sp (v : Byte) (s : State) : (setAZN v s).sp = s.sp := rfl
@[simp] theorem setAZN_p (v : Byte) (s : State) : (setAZN v s).p = setZN v s.p := rfl
@[simp] theorem setAZN_pc (v : Byte) (s : State) : (setAZN v s).pc = s.pc := rfl
@[simp] theorem setAZN_remainingCycles (v : Byte) (s : State) : (setAZN v s).remainingCycles = s.remainingCycles := rfl
@[simp] theorem setAZN_totalCycles (v : Byte) (s : State) : (setAZN v s).totalCycles = s.totalCycles := rfl
@[simp] theorem setAZN_pendingNmi (v : Byte) (s : State) : (setAZN v s).pendingNmi = s.pendingNmi := rfl
@[simp] theorem setAZN_pendingIrq (v : Byte) (s : State) : (setAZN v s).pendingIrq = s.pendingIrq := rfl
@[simp] theorem setAZN_halted (v : Byte) (s : State) : (setAZN v s).halted = s.halted := rfl
@[simp] theorem setAZN_mem (v : Byte) (s : State) : (setAZN v s).mem = s.mem := rfl
@[simp] theorem setAZN_straps (v : Byte) (s : State) : (setAZN v s).straps = s.straps := rfl
@[simp] theorem setAZN_trace (v : Byte) (s : State) : (setAZN v s).trace = s.trace := rfl

@[simp] theorem setXZN_a (v : Byte) (s : State) : (setXZN v s).a = s.a := rfl
@[simp] theorem setXZN_x (v : Byte) (s : State) : (setXZN v s).x = v := rfl
@[simp] theorem setXZN_y (v : Byte) (s : State) : (setXZN v s).y = s.y := rfl
@[simp] theorem setXZN_sp (v : Byte) (s : State) : (setXZN v s).sp = s.sp := rfl
@[simp] theorem setXZN_p (v : Byte) (s : State) : (setXZN v s).p = setZN v s.p := rfl
@[simp] theorem setXZN_pc (v : Byte) (s : State) : (setXZN v s).pc = s.pc := rfl
@[simp] theorem setXZN_remainingCycles (v : Byte) (s : State) : (setXZN v s).remainingCycles = s.remainingCycles := rfl
@[simp] theorem setXZN_totalCycles (v : Byte) (s : State) : (setXZN v s).totalCycles = s.totalCycles := rfl
@[simp] theorem setXZN_pendingNmi (v : Byte) (s : State) : (setXZN v s).pendingNmi = s.pendingNmi := rfl
@[simp] theorem setXZN_pendingIrq (v : Byte) (s : State) : (setXZN v s).pendingIrq = s.pendingIrq := rfl
@[simp] theorem setXZN_halted (v : Byte) (s : State) : (setXZN v s).halted = s.halted := rfl
@[simp] theorem setXZN_mem (v : Byte) (s : State) : (setXZN v s).mem = s.mem := rfl
@[simp] theorem setXZN_straps (v : Byte) (s : State) : (setXZN v s).straps = s.straps := rfl
@[simp] theorem setXZN_trace (v : Byte) (s : State) : (setXZN v s).trace = s.trace := rfl

@[simp] theorem setYZN_a (v : Byte) (s : State) : (setYZN v s).a = s.a := rfl
@[simp] theorem setYZN_x (v : Byte) (s : State) : (setYZN v s).x = s.x := rfl
@[simp] theorem setYZN_y (v : Byte) (s : State) : (setYZN v s).y = v := rfl
@[simp] theorem setYZN_sp (v : Byte) (s : State) : (setYZN v s).sp = s.sp := rfl
@[simp] theorem setYZN_p (v : Byte) (s : State) : (setYZN v s).p = setZN v s.p := rfl
@[simp] theorem setYZN_pc (v : Byte) (s : State) : (setYZN v s).pc = s.pc := rfl
@[simp] theorem setYZN_remainingCycles (v : Byte) (s : State) : (setYZN v s).remainingCycles = s.remainingCycles := rfl
@[simp] theorem setYZN_totalCycles (v : Byte) (s : State) : (setYZN v s).totalCycles = s.totalCycles := rfl
@[simp] theorem setYZN_pendingNmi (v : Byte) (s : State) : (setYZN v s).pendingNmi = s.pendingNmi := rfl
@[simp] theorem setYZN_pendingIrq (v : Byte) (s : State) : (setYZN v s).pendingIrq = s.pendingIrq := rfl
@[simp] theorem setYZN_halted (v : Byte) (s : State) : (setYZN v s).halted = s.halted := rfl
@[simp] theorem setYZN_mem (v : Byte) (s : State) : (setYZN v s).mem = s.mem := rfl
@[simp] theorem setYZN_straps (v : Byte) (s : State) : (setYZN v s).straps = s.straps := rfl
@[simp] theorem setYZN_trace (v : Byte) (s : State) : (setYZN v s).trace = s.trace := rfl

@[simp] theorem writeFlag_a (f : Flag) (b : Bool) (s : State) : (writeFlag f b s).a = s.a := rfl
@[simp] theorem writeFlag_x (f : Flag) (b : Bool) (s : State) : (writeFlag f b s).x = s.x := rfl
@[simp] theorem writeFlag_y (f : Flag) (b : Bool) (s : State) : (writeFlag f b s).y = s.y := rfl
@[simp] theorem writeFlag_sp (f : Flag) (b : Bool) (s : State) : (writeFlag f b s).sp = s.sp := rfl
@[simp] theorem writeFlag_p (f : Flag) (b : Bool) (s : State) : (writeFlag f b s).p = setFlag f b s.p := rfl
@[simp] theorem writeFlag_pc (f : Flag) (b : Bool) (s : State) : (writeFlag f b s).pc = s.pc := rfl
@[simp] theorem writeFlag_remainingCycles (f : Flag) (b : Bool) (s : State) : (writeFlag f b s).remainingCycles = s.remainingCycles := rfl
@[simp] theorem writeFlag_totalCycles (f : Flag) (b : Bool) (s : State) : (writeFlag f b s).totalCycles = s.totalCycles := rfl
@[simp] theorem writeFlag_pendingNmi (f : Flag) (b : Bool) (s : State) : (writeFlag f b s).pendingNmi = s.pendingNmi := rfl
@[simp] theorem writeFlag_pendingIrq (f : Flag) (b : Bool) (s : State) : (writeFlag f b s).pendingIrq = s.pendingIrq := rfl
@[simp] theorem writeFlag_halted (f : Flag) (b : Bool) (s : State) : (writeFlag f b s).halted = s.halted := rfl
@[simp] theorem writeFlag_mem (f : Flag) (b : Bool) (s : State) : (writeFlag f b s).mem = s.mem := rfl
@[simp] theorem writeFlag_straps (f : Flag) (b : Bool) (s : State) : (writeFlag f b s).straps = s.straps := rfl
@[simp] theorem writeFlag_trace (f : Flag) (b : Bool) (s : State) : (writeFlag f b s).trace = s.trace := rfl

end Sys2Proof.Machine
end

