-- ==== Sys2Proof/Laws/Ops.lean ====
section
/-! SUPPORT. What the shared operations can do: the stack, the interrupt entry and return, the resolvers. -/

namespace Sys2Proof.Machine

/-- Every 16-bit address is inside the address space. -/
theorem addr_lt_addressSpace (addr : Addr) : addr.toNat < addressSpace := addr.isLt

/-- What a byte reads as after a bus write, in a canonical memory. -/
theorem byteAt_memWrite {s : State} (h : s.mem.wf = true) (addr : Addr) (v : Byte) (b : Addr) :
    (memWrite addr v s).byteAt b = if b = addr then v else s.byteAt b := by
  have := Memory.read_write h addr.toNat v b.toNat
  simpa [State.byteAt, BitVec.toNat_inj] using this

/-- A bus write keeps memory canonical. -/
theorem memWrite_wf {s : State} (h : s.mem.wf = true) (addr : Addr) (v : Byte) :
    (memWrite addr v s).mem.wf = true :=
  Memory.wf_write h v (addr_lt_addressSpace addr)

/-- A push keeps memory canonical. -/
theorem push_wf {s : State} (h : s.mem.wf = true) (v : Byte) : (push v s).mem.wf = true :=
  Memory.wf_write h v (addr_lt_addressSpace _)

/-- `Push16` in one update (R172). -/
theorem push16_eq (w : Addr) (s : State) :
    push16 w s =
      { s with
        sp := s.sp - 1#8 - 1#8
        mem := (s.mem.write (stackAddr s.sp).toNat (highByte w)).write (stackAddr (s.sp - 1#8)).toNat (lowByte w)
        trace := .write (stackAddr (s.sp - 1#8)) (lowByte w) :: .write (stackAddr s.sp) (highByte w) :: s.trace } :=
  rfl

/-- `Pop16` in one update (R172). -/
theorem pop16_eq (s : State) :
    pop16 s =
      (word (s.byteAt (stackAddr (s.sp + 1#8 + 1#8))) (s.byteAt (stackAddr (s.sp + 1#8))),
        { s with
          sp := s.sp + 1#8 + 1#8
          trace := .read (stackAddr (s.sp + 1#8 + 1#8)) (s.byteAt (stackAddr (s.sp + 1#8 + 1#8)))
            :: .read (stackAddr (s.sp + 1#8)) (s.byteAt (stackAddr (s.sp + 1#8))) :: s.trace }) :=
  rfl

/-- The stack page address of SP, as a number (R24). -/
theorem stackAddr_toNat (sp : Byte) : (stackAddr sp).toNat = 256 + sp.toNat := by
  have := sp.isLt
  simp only [stackAddr, zext16, BitVec.toNat_add, BitVec.toNat_setWidth, BitVec.toNat_ofNat]
  omega

/-- Two stack pointers name the same location only if they are equal. -/
theorem stackAddr_inj {p q : Byte} : stackAddr p = stackAddr q ↔ p = q := by
  constructor
  · intro h
    have := congrArg BitVec.toNat h
    rw [stackAddr_toNat, stackAddr_toNat] at this
    exact BitVec.eq_of_toNat_eq (by omega)
  · rintro rfl; rfl

@[simp] theorem highByte_word (h l : Byte) : highByte (word h l) = h := by
  ext i hi
  simp only [highByte, word, BitVec.getElem_extractLsb', BitVec.getLsbD_append]
  simp [show ¬ 8 + i < 8 by omega, BitVec.getLsbD_eq_getElem hi]

@[simp] theorem lowByte_word (h l : Byte) : lowByte (word h l) = l := by
  ext i hi
  simp only [lowByte, word, BitVec.getElem_extractLsb', BitVec.getLsbD_append]
  simp [hi]

@[simp] theorem word_highByte_lowByte (w : Addr) : word (highByte w) (lowByte w) = w := by
  apply BitVec.eq_of_getLsbD_eq
  intro i hi
  simp only [word, highByte, lowByte, BitVec.getLsbD_append, BitVec.getLsbD_extractLsb']
  by_cases h : i < 8
  · simp [h]
  · have h8 : i - 8 < 8 := by omega
    have : 8 + (i - 8) = i := by omega
    simp [h, h8, this]

/-- A resolver changes PC and the trace and nothing else (R100). -/
theorem resolve_frame (m : AddrMode) (b1 b2 : Byte) (s : State) :
    (resolve m b1 b2 s).state =
      { s with pc := (resolve m b1 b2 s).state.pc, trace := (resolve m b1 b2 s).state.trace } := by
  cases m <;> rfl

@[simp] theorem resolve_a (m : AddrMode) (b1 b2 : Byte) (s : State) : (resolve m b1 b2 s).state.a = s.a := by
  rw [resolve_frame]
@[simp] theorem resolve_x (m : AddrMode) (b1 b2 : Byte) (s : State) : (resolve m b1 b2 s).state.x = s.x := by
  rw [resolve_frame]
@[simp] theorem resolve_y (m : AddrMode) (b1 b2 : Byte) (s : State) : (resolve m b1 b2 s).state.y = s.y := by
  rw [resolve_frame]
@[simp] theorem resolve_sp (m : AddrMode) (b1 b2 : Byte) (s : State) : (resolve m b1 b2 s).state.sp = s.sp := by
  rw [resolve_frame]
@[simp] theorem resolve_p (m : AddrMode) (b1 b2 : Byte) (s : State) : (resolve m b1 b2 s).state.p = s.p := by
  rw [resolve_frame]
@[simp] theorem resolve_remainingCycles (m : AddrMode) (b1 b2 : Byte) (s : State) :
    (resolve m b1 b2 s).state.remainingCycles = s.remainingCycles := by
  rw [resolve_frame]
@[simp] theorem resolve_totalCycles (m : AddrMode) (b1 b2 : Byte) (s : State) :
    (resolve m b1 b2 s).state.totalCycles = s.totalCycles := by
  rw [resolve_frame]
@[simp] theorem resolve_pendingNmi (m : AddrMode) (b1 b2 : Byte) (s : State) :
    (resolve m b1 b2 s).state.pendingNmi = s.pendingNmi := by
  rw [resolve_frame]
@[simp] theorem resolve_pendingIrq (m : AddrMode) (b1 b2 : Byte) (s : State) :
    (resolve m b1 b2 s).state.pendingIrq = s.pendingIrq := by
  rw [resolve_frame]
@[simp] theorem resolve_halted (m : AddrMode) (b1 b2 : Byte) (s : State) :
    (resolve m b1 b2 s).state.halted = s.halted := by
  rw [resolve_frame]
@[simp] theorem resolve_mem (m : AddrMode) (b1 b2 : Byte) (s : State) : (resolve m b1 b2 s).state.mem = s.mem := by
  rw [resolve_frame]
@[simp] theorem resolve_straps (m : AddrMode) (b1 b2 : Byte) (s : State) :
    (resolve m b1 b2 s).state.straps = s.straps := by
  rw [resolve_frame]

/-- The extra-cycle signal is 0 or 1 (R100). -/
theorem resolve_extra_le (m : AddrMode) (b1 b2 : Byte) (s : State) : (resolve m b1 b2 s).extra ≤ 1 := by
  have hc : ∀ a b : Addr, crossing a b ≤ 1 := by intro a b; unfold crossing; split <;> omega
  cases m <;> first | exact hc _ _ | exact Nat.zero_le 1

/-- A machine that has not halted loads its budget (R272). -/
theorem loadBudget_running {n : Nat} {s : State} (h : s.halted = false) : loadBudget n s = addCycles n s := by
  simp [loadBudget, h]

end Sys2Proof.Machine
end

