-- ==== Sys2Proof/Laws/Table.lean ====
section
/-! SUPPORT. The meanings read off the dispatch table: what `exec` does, as a function of the instruction's row. One
case split over the constructors here, so that no later proof needs one. -/

namespace Sys2Proof.Machine

/-- The semantic function of each mnemonic on an AbsoluteAddress; a mnemonic with no such form gets the identity. -/
def memSemantic : Mnemonic → MemOperand → State → State
  | .adc => opAdc
  | .sbc => opSbc
  | .and => opAnd
  | .ora => opOra
  | .eor => opEor
  | .bit => opBit
  | .asl => opAsl
  | .lsr => opLsr
  | .rol => opRol
  | .ror => opRor
  | .cmp => opCmp
  | .cpx => opCpx
  | .cpy => opCpy
  | .jsr => opJsr
  | .jmp => opJmp
  | .lda => opLda
  | .ldx => opLdx
  | .ldy => opLdy
  | .sta => opSta
  | .stx => opStx
  | .sty => opSty
  | .inc => opInc
  | .dec => opDec
  | .slo => opSlo
  | .rla => opRla
  | .sre => opSre
  | .rra => opRra
  | .dcp => opDcp
  | .isc => opIsc
  | .sax => opSax
  | .lax => opLax
  | .las => opLas
  | .anc => opAnc
  | .alr => opAlr
  | .arr => opArr
  | .xaa => opXaa
  | .axs => opAxs
  | .ahx => opAhx
  | .shy => opShy
  | .shx => opShx
  | .tas => opTas
  | _ => opNop

/-- The semantic function of each mnemonic on Implied. -/
def impliedSemantic : Mnemonic → Unit → State → State
  | .asl => opAslAcc
  | .lsr => opLsrAcc
  | .rol => opRolAcc
  | .ror => opRorAcc
  | .pha => opPha
  | .php => opPhp
  | .pla => opPla
  | .plp => opPlp
  | .rts => opRts
  | .rti => opRti
  | .brk => opBrk
  | .tax => opTax
  | .tay => opTay
  | .txa => opTxa
  | .tya => opTya
  | .tsx => opTsx
  | .txs => opTxs
  | .clc => opClc
  | .cld => opCld
  | .cli => opCli
  | .clv => opClv
  | .sec => opSec
  | .sed => opSed
  | .sei => opSei
  | .inx => opInx
  | .iny => opIny
  | .dex => opDex
  | .dey => opDey
  | .kil => opKil
  | _ => opNop

/-- The semantic function of each branch. -/
def relativeSemantic : Mnemonic → Byte → State → State
  | .bcc => opBcc
  | .bcs => opBcs
  | .beq => opBeq
  | .bne => opBne
  | .bmi => opBmi
  | .bpl => opBpl
  | .bvc => opBvc
  | .bvs => opBvs
  | _ => opNop

/-- A dispatch of row `r` with operand bytes `b1` and `b2`. -/
def dispatchRow (r : Row) (b1 b2 : Byte) (s : State) : Result :=
  match r.mode, r.cls with
  | .implied, .legal => dispatchLegal r.opcode r.base implied (impliedSemantic r.mnemonic) s
  | .implied, .illegal => dispatchIllegal r.opcode r.base implied (impliedSemantic r.mnemonic) s
  | .relative, .legal => dispatchLegal r.opcode r.base (relative b1) (relativeSemantic r.mnemonic) s
  | .relative, .illegal => dispatchIllegal r.opcode r.base (relative b1) (relativeSemantic r.mnemonic) s
  | .addr m, .legal => dispatchLegal r.opcode r.base (resolve m b1 b2) (memSemantic r.mnemonic) s
  | .addr m, .illegal => dispatchIllegal r.opcode r.base (resolve m b1 b2) (memSemantic r.mnemonic) s

/-- Every meaning is the dispatch of its row. -/
theorem exec_eq_dispatchRow (i : Instr) (s : State) : exec i s = dispatchRow i.row i.byte1 i.byte2 s := by
  cases i <;> rfl

/-- The row at an opcode byte is `r`. -/
abbrev RowAt (op : Byte) (r : Row) : Prop := (decodeOpcode op 0x00#8 0x00#8).row = r

/-- The opcode byte alone selects the row (R273). -/
theorem row_of_opcode (i : Instr) : RowAt i.row.opcode i.row :=
  match i with
  | .brk => show (decodeOpcode 0x00#8 0x00#8 0x00#8).row = _ from rfl
  | .oraIzx _ => show (decodeOpcode 0x01#8 0x00#8 0x00#8).row = _ from rfl
  | .kil02 => show (decodeOpcode 0x02#8 0x00#8 0x00#8).row = _ from rfl
  | .sloIzx _ => show (decodeOpcode 0x03#8 0x00#8 0x00#8).row = _ from rfl
  | .nop04 _ => show (decodeOpcode 0x04#8 0x00#8 0x00#8).row = _ from rfl
  | .oraZp _ => show (decodeOpcode 0x05#8 0x00#8 0x00#8).row = _ from rfl
  | .aslZp _ => show (decodeOpcode 0x06#8 0x00#8 0x00#8).row = _ from rfl
  | .sloZp _ => show (decodeOpcode 0x07#8 0x00#8 0x00#8).row = _ from rfl
  | .php => show (decodeOpcode 0x08#8 0x00#8 0x00#8).row = _ from rfl
  | .oraImm _ => show (decodeOpcode 0x09#8 0x00#8 0x00#8).row = _ from rfl
  | .aslAcc => show (decodeOpcode 0x0A#8 0x00#8 0x00#8).row = _ from rfl
  | .anc0B _ => show (decodeOpcode 0x0B#8 0x00#8 0x00#8).row = _ from rfl
  | .nop0C _ _ => show (decodeOpcode 0x0C#8 0x00#8 0x00#8).row = _ from rfl
  | .oraAbs _ _ => show (decodeOpcode 0x0D#8 0x00#8 0x00#8).row = _ from rfl
  | .aslAbs _ _ => show (decodeOpcode 0x0E#8 0x00#8 0x00#8).row = _ from rfl
  | .sloAbs _ _ => show (decodeOpcode 0x0F#8 0x00#8 0x00#8).row = _ from rfl
  | .bpl _ => show (decodeOpcode 0x10#8 0x00#8 0x00#8).row = _ from rfl
  | .oraIzy _ => show (decodeOpcode 0x11#8 0x00#8 0x00#8).row = _ from rfl
  | .kil12 => show (decodeOpcode 0x12#8 0x00#8 0x00#8).row = _ from rfl
  | .sloIzy _ => show (decodeOpcode 0x13#8 0x00#8 0x00#8).row = _ from rfl
  | .nop14 _ => show (decodeOpcode 0x14#8 0x00#8 0x00#8).row = _ from rfl
  | .oraZpx _ => show (decodeOpcode 0x15#8 0x00#8 0x00#8).row = _ from rfl
  | .aslZpx _ => show (decodeOpcode 0x16#8 0x00#8 0x00#8).row = _ from rfl
  | .sloZpx _ => show (decodeOpcode 0x17#8 0x00#8 0x00#8).row = _ from rfl
  | .clc => show (decodeOpcode 0x18#8 0x00#8 0x00#8).row = _ from rfl
  | .oraAby _ _ => show (decodeOpcode 0x19#8 0x00#8 0x00#8).row = _ from rfl
  | .nop1A => show (decodeOpcode 0x1A#8 0x00#8 0x00#8).row = _ from rfl
  | .sloAby _ _ => show (decodeOpcode 0x1B#8 0x00#8 0x00#8).row = _ from rfl
  | .nop1C _ _ => show (decodeOpcode 0x1C#8 0x00#8 0x00#8).row = _ from rfl
  | .oraAbx _ _ => show (decodeOpcode 0x1D#8 0x00#8 0x00#8).row = _ from rfl
  | .aslAbx _ _ => show (decodeOpcode 0x1E#8 0x00#8 0x00#8).row = _ from rfl
  | .sloAbx _ _ => show (decodeOpcode 0x1F#8 0x00#8 0x00#8).row = _ from rfl
  | .jsr _ _ => show (decodeOpcode 0x20#8 0x00#8 0x00#8).row = _ from rfl
  | .andIzx _ => show (decodeOpcode 0x21#8 0x00#8 0x00#8).row = _ from rfl
  | .kil22 => show (decodeOpcode 0x22#8 0x00#8 0x00#8).row = _ from rfl
  | .rlaIzx _ => show (decodeOpcode 0x23#8 0x00#8 0x00#8).row = _ from rfl
  | .bitZp _ => show (decodeOpcode 0x24#8 0x00#8 0x00#8).row = _ from rfl
  | .andZp _ => show (decodeOpcode 0x25#8 0x00#8 0x00#8).row = _ from rfl
  | .rolZp _ => show (decodeOpcode 0x26#8 0x00#8 0x00#8).row = _ from rfl
  | .rlaZp _ => show (decodeOpcode 0x27#8 0x00#8 0x00#8).row = _ from rfl
  | .plp => show (decodeOpcode 0x28#8 0x00#8 0x00#8).row = _ from rfl
  | .andImm _ => show (decodeOpcode 0x29#8 0x00#8 0x00#8).row = _ from rfl
  | .rolAcc => show (decodeOpcode 0x2A#8 0x00#8 0x00#8).row = _ from rfl
  | .anc2B _ => show (decodeOpcode 0x2B#8 0x00#8 0x00#8).row = _ from rfl
  | .bitAbs _ _ => show (decodeOpcode 0x2C#8 0x00#8 0x00#8).row = _ from rfl
  | .andAbs _ _ => show (decodeOpcode 0x2D#8 0x00#8 0x00#8).row = _ from rfl
  | .rolAbs _ _ => show (decodeOpcode 0x2E#8 0x00#8 0x00#8).row = _ from rfl
  | .rlaAbs _ _ => show (decodeOpcode 0x2F#8 0x00#8 0x00#8).row = _ from rfl
  | .bmi _ => show (decodeOpcode 0x30#8 0x00#8 0x00#8).row = _ from rfl
  | .andIzy _ => show (decodeOpcode 0x31#8 0x00#8 0x00#8).row = _ from rfl
  | .kil32 => show (decodeOpcode 0x32#8 0x00#8 0x00#8).row = _ from rfl
  | .rlaIzy _ => show (decodeOpcode 0x33#8 0x00#8 0x00#8).row = _ from rfl
  | .nop34 _ => show (decodeOpcode 0x34#8 0x00#8 0x00#8).row = _ from rfl
  | .andZpx _ => show (decodeOpcode 0x35#8 0x00#8 0x00#8).row = _ from rfl
  | .rolZpx _ => show (decodeOpcode 0x36#8 0x00#8 0x00#8).row = _ from rfl
  | .rlaZpx _ => show (decodeOpcode 0x37#8 0x00#8 0x00#8).row = _ from rfl
  | .sec => show (decodeOpcode 0x38#8 0x00#8 0x00#8).row = _ from rfl
  | .andAby _ _ => show (decodeOpcode 0x39#8 0x00#8 0x00#8).row = _ from rfl
  | .nop3A => show (decodeOpcode 0x3A#8 0x00#8 0x00#8).row = _ from rfl
  | .rlaAby _ _ => show (decodeOpcode 0x3B#8 0x00#8 0x00#8).row = _ from rfl
  | .nop3C _ _ => show (decodeOpcode 0x3C#8 0x00#8 0x00#8).row = _ from rfl
  | .andAbx _ _ => show (decodeOpcode 0x3D#8 0x00#8 0x00#8).row = _ from rfl
  | .rolAbx _ _ => show (decodeOpcode 0x3E#8 0x00#8 0x00#8).row = _ from rfl
  | .rlaAbx _ _ => show (decodeOpcode 0x3F#8 0x00#8 0x00#8).row = _ from rfl
  | .rti => show (decodeOpcode 0x40#8 0x00#8 0x00#8).row = _ from rfl
  | .eorIzx _ => show (decodeOpcode 0x41#8 0x00#8 0x00#8).row = _ from rfl
  | .kil42 => show (decodeOpcode 0x42#8 0x00#8 0x00#8).row = _ from rfl
  | .sreIzx _ => show (decodeOpcode 0x43#8 0x00#8 0x00#8).row = _ from rfl
  | .nop44 _ => show (decodeOpcode 0x44#8 0x00#8 0x00#8).row = _ from rfl
  | .eorZp _ => show (decodeOpcode 0x45#8 0x00#8 0x00#8).row = _ from rfl
  | .lsrZp _ => show (decodeOpcode 0x46#8 0x00#8 0x00#8).row = _ from rfl
  | .sreZp _ => show (decodeOpcode 0x47#8 0x00#8 0x00#8).row = _ from rfl
  | .pha => show (decodeOpcode 0x48#8 0x00#8 0x00#8).row = _ from rfl
  | .eorImm _ => show (decodeOpcode 0x49#8 0x00#8 0x00#8).row = _ from rfl
  | .lsrAcc => show (decodeOpcode 0x4A#8 0x00#8 0x00#8).row = _ from rfl
  | .alr _ => show (decodeOpcode 0x4B#8 0x00#8 0x00#8).row = _ from rfl
  | .jmpAbs _ _ => show (decodeOpcode 0x4C#8 0x00#8 0x00#8).row = _ from rfl
  | .eorAbs _ _ => show (decodeOpcode 0x4D#8 0x00#8 0x00#8).row = _ from rfl
  | .lsrAbs _ _ => show (decodeOpcode 0x4E#8 0x00#8 0x00#8).row = _ from rfl
  | .sreAbs _ _ => show (decodeOpcode 0x4F#8 0x00#8 0x00#8).row = _ from rfl
  | .bvc _ => show (decodeOpcode 0x50#8 0x00#8 0x00#8).row = _ from rfl
  | .eorIzy _ => show (decodeOpcode 0x51#8 0x00#8 0x00#8).row = _ from rfl
  | .kil52 => show (decodeOpcode 0x52#8 0x00#8 0x00#8).row = _ from rfl
  | .sreIzy _ => show (decodeOpcode 0x53#8 0x00#8 0x00#8).row = _ from rfl
  | .nop54 _ => show (decodeOpcode 0x54#8 0x00#8 0x00#8).row = _ from rfl
  | .eorZpx _ => show (decodeOpcode 0x55#8 0x00#8 0x00#8).row = _ from rfl
  | .lsrZpx _ => show (decodeOpcode 0x56#8 0x00#8 0x00#8).row = _ from rfl
  | .sreZpx _ => show (decodeOpcode 0x57#8 0x00#8 0x00#8).row = _ from rfl
  | .cli => show (decodeOpcode 0x58#8 0x00#8 0x00#8).row = _ from rfl
  | .eorAby _ _ => show (decodeOpcode 0x59#8 0x00#8 0x00#8).row = _ from rfl
  | .nop5A => show (decodeOpcode 0x5A#8 0x00#8 0x00#8).row = _ from rfl
  | .sreAby _ _ => show (decodeOpcode 0x5B#8 0x00#8 0x00#8).row = _ from rfl
  | .nop5C _ _ => show (decodeOpcode 0x5C#8 0x00#8 0x00#8).row = _ from rfl
  | .eorAbx _ _ => show (decodeOpcode 0x5D#8 0x00#8 0x00#8).row = _ from rfl
  | .lsrAbx _ _ => show (decodeOpcode 0x5E#8 0x00#8 0x00#8).row = _ from rfl
  | .sreAbx _ _ => show (decodeOpcode 0x5F#8 0x00#8 0x00#8).row = _ from rfl
  | .rts => show (decodeOpcode 0x60#8 0x00#8 0x00#8).row = _ from rfl
  | .adcIzx _ => show (decodeOpcode 0x61#8 0x00#8 0x00#8).row = _ from rfl
  | .kil62 => show (decodeOpcode 0x62#8 0x00#8 0x00#8).row = _ from rfl
  | .rraIzx _ => show (decodeOpcode 0x63#8 0x00#8 0x00#8).row = _ from rfl
  | .nop64 _ => show (decodeOpcode 0x64#8 0x00#8 0x00#8).row = _ from rfl
  | .adcZp _ => show (decodeOpcode 0x65#8 0x00#8 0x00#8).row = _ from rfl
  | .rorZp _ => show (decodeOpcode 0x66#8 0x00#8 0x00#8).row = _ from rfl
  | .rraZp _ => show (decodeOpcode 0x67#8 0x00#8 0x00#8).row = _ from rfl
  | .pla => show (decodeOpcode 0x68#8 0x00#8 0x00#8).row = _ from rfl
  | .adcImm _ => show (decodeOpcode 0x69#8 0x00#8 0x00#8).row = _ from rfl
  | .rorAcc => show (decodeOpcode 0x6A#8 0x00#8 0x00#8).row = _ from rfl
  | .arr _ => show (decodeOpcode 0x6B#8 0x00#8 0x00#8).row = _ from rfl
  | .jmpInd _ _ => show (decodeOpcode 0x6C#8 0x00#8 0x00#8).row = _ from rfl
  | .adcAbs _ _ => show (decodeOpcode 0x6D#8 0x00#8 0x00#8).row = _ from rfl
  | .rorAbs _ _ => show (decodeOpcode 0x6E#8 0x00#8 0x00#8).row = _ from rfl
  | .rraAbs _ _ => show (decodeOpcode 0x6F#8 0x00#8 0x00#8).row = _ from rfl
  | .bvs _ => show (decodeOpcode 0x70#8 0x00#8 0x00#8).row = _ from rfl
  | .adcIzy _ => show (decodeOpcode 0x71#8 0x00#8 0x00#8).row = _ from rfl
  | .kil72 => show (decodeOpcode 0x72#8 0x00#8 0x00#8).row = _ from rfl
  | .rraIzy _ => show (decodeOpcode 0x73#8 0x00#8 0x00#8).row = _ from rfl
  | .nop74 _ => show (decodeOpcode 0x74#8 0x00#8 0x00#8).row = _ from rfl
  | .adcZpx _ => show (decodeOpcode 0x75#8 0x00#8 0x00#8).row = _ from rfl
  | .rorZpx _ => show (decodeOpcode 0x76#8 0x00#8 0x00#8).row = _ from rfl
  | .rraZpx _ => show (decodeOpcode 0x77#8 0x00#8 0x00#8).row = _ from rfl
  | .sei => show (decodeOpcode 0x78#8 0x00#8 0x00#8).row = _ from rfl
  | .adcAby _ _ => show (decodeOpcode 0x79#8 0x00#8 0x00#8).row = _ from rfl
  | .nop7A => show (decodeOpcode 0x7A#8 0x00#8 0x00#8).row = _ from rfl
  | .rraAby _ _ => show (decodeOpcode 0x7B#8 0x00#8 0x00#8).row = _ from rfl
  | .nop7C _ _ => show (decodeOpcode 0x7C#8 0x00#8 0x00#8).row = _ from rfl
  | .adcAbx _ _ => show (decodeOpcode 0x7D#8 0x00#8 0x00#8).row = _ from rfl
  | .rorAbx _ _ => show (decodeOpcode 0x7E#8 0x00#8 0x00#8).row = _ from rfl
  | .rraAbx _ _ => show (decodeOpcode 0x7F#8 0x00#8 0x00#8).row = _ from rfl
  | .nop80 _ => show (decodeOpcode 0x80#8 0x00#8 0x00#8).row = _ from rfl
  | .staIzx _ => show (decodeOpcode 0x81#8 0x00#8 0x00#8).row = _ from rfl
  | .nop82 _ => show (decodeOpcode 0x82#8 0x00#8 0x00#8).row = _ from rfl
  | .saxIzx _ => show (decodeOpcode 0x83#8 0x00#8 0x00#8).row = _ from rfl
  | .styZp _ => show (decodeOpcode 0x84#8 0x00#8 0x00#8).row = _ from rfl
  | .staZp _ => show (decodeOpcode 0x85#8 0x00#8 0x00#8).row = _ from rfl
  | .stxZp _ => show (decodeOpcode 0x86#8 0x00#8 0x00#8).row = _ from rfl
  | .saxZp _ => show (decodeOpcode 0x87#8 0x00#8 0x00#8).row = _ from rfl
  | .dey => show (decodeOpcode 0x88#8 0x00#8 0x00#8).row = _ from rfl
  | .nop89 _ => show (decodeOpcode 0x89#8 0x00#8 0x00#8).row = _ from rfl
  | .txa => show (decodeOpcode 0x8A#8 0x00#8 0x00#8).row = _ from rfl
  | .xaa _ => show (decodeOpcode 0x8B#8 0x00#8 0x00#8).row = _ from rfl
  | .styAbs _ _ => show (decodeOpcode 0x8C#8 0x00#8 0x00#8).row = _ from rfl
  | .staAbs _ _ => show (decodeOpcode 0x8D#8 0x00#8 0x00#8).row = _ from rfl
  | .stxAbs _ _ => show (decodeOpcode 0x8E#8 0x00#8 0x00#8).row = _ from rfl
  | .saxAbs _ _ => show (decodeOpcode 0x8F#8 0x00#8 0x00#8).row = _ from rfl
  | .bcc _ => show (decodeOpcode 0x90#8 0x00#8 0x00#8).row = _ from rfl
  | .staIzy _ => show (decodeOpcode 0x91#8 0x00#8 0x00#8).row = _ from rfl
  | .kil92 => show (decodeOpcode 0x92#8 0x00#8 0x00#8).row = _ from rfl
  | .ahxIzy _ => show (decodeOpcode 0x93#8 0x00#8 0x00#8).row = _ from rfl
  | .styZpx _ => show (decodeOpcode 0x94#8 0x00#8 0x00#8).row = _ from rfl
  | .staZpx _ => show (decodeOpcode 0x95#8 0x00#8 0x00#8).row = _ from rfl
  | .stxZpy _ => show (decodeOpcode 0x96#8 0x00#8 0x00#8).row = _ from rfl
  | .saxZpy _ => show (decodeOpcode 0x97#8 0x00#8 0x00#8).row = _ from rfl
  | .tya => show (decodeOpcode 0x98#8 0x00#8 0x00#8).row = _ from rfl
  | .staAby _ _ => show (decodeOpcode 0x99#8 0x00#8 0x00#8).row = _ from rfl
  | .txs => show (decodeOpcode 0x9A#8 0x00#8 0x00#8).row = _ from rfl
  | .tas _ _ => show (decodeOpcode 0x9B#8 0x00#8 0x00#8).row = _ from rfl
  | .shy _ _ => show (decodeOpcode 0x9C#8 0x00#8 0x00#8).row = _ from rfl
  | .staAbx _ _ => show (decodeOpcode 0x9D#8 0x00#8 0x00#8).row = _ from rfl
  | .shx _ _ => show (decodeOpcode 0x9E#8 0x00#8 0x00#8).row = _ from rfl
  | .ahxAby _ _ => show (decodeOpcode 0x9F#8 0x00#8 0x00#8).row = _ from rfl
  | .ldyImm _ => show (decodeOpcode 0xA0#8 0x00#8 0x00#8).row = _ from rfl
  | .ldaIzx _ => show (decodeOpcode 0xA1#8 0x00#8 0x00#8).row = _ from rfl
  | .ldxImm _ => show (decodeOpcode 0xA2#8 0x00#8 0x00#8).row = _ from rfl
  | .laxIzx _ => show (decodeOpcode 0xA3#8 0x00#8 0x00#8).row = _ from rfl
  | .ldyZp _ => show (decodeOpcode 0xA4#8 0x00#8 0x00#8).row = _ from rfl
  | .ldaZp _ => show (decodeOpcode 0xA5#8 0x00#8 0x00#8).row = _ from rfl
  | .ldxZp _ => show (decodeOpcode 0xA6#8 0x00#8 0x00#8).row = _ from rfl
  | .laxZp _ => show (decodeOpcode 0xA7#8 0x00#8 0x00#8).row = _ from rfl
  | .tay => show (decodeOpcode 0xA8#8 0x00#8 0x00#8).row = _ from rfl
  | .ldaImm _ => show (decodeOpcode 0xA9#8 0x00#8 0x00#8).row = _ from rfl
  | .tax => show (decodeOpcode 0xAA#8 0x00#8 0x00#8).row = _ from rfl
  | .laxImm _ => show (decodeOpcode 0xAB#8 0x00#8 0x00#8).row = _ from rfl
  | .ldyAbs _ _ => show (decodeOpcode 0xAC#8 0x00#8 0x00#8).row = _ from rfl
  | .ldaAbs _ _ => show (decodeOpcode 0xAD#8 0x00#8 0x00#8).row = _ from rfl
  | .ldxAbs _ _ => show (decodeOpcode 0xAE#8 0x00#8 0x00#8).row = _ from rfl
  | .laxAbs _ _ => show (decodeOpcode 0xAF#8 0x00#8 0x00#8).row = _ from rfl
  | .bcs _ => show (decodeOpcode 0xB0#8 0x00#8 0x00#8).row = _ from rfl
  | .ldaIzy _ => show (decodeOpcode 0xB1#8 0x00#8 0x00#8).row = _ from rfl
  | .kilB2 => show (decodeOpcode 0xB2#8 0x00#8 0x00#8).row = _ from rfl
  | .laxIzy _ => show (decodeOpcode 0xB3#8 0x00#8 0x00#8).row = _ from rfl
  | .ldyZpx _ => show (decodeOpcode 0xB4#8 0x00#8 0x00#8).row = _ from rfl
  | .ldaZpx _ => show (decodeOpcode 0xB5#8 0x00#8 0x00#8).row = _ from rfl
  | .ldxZpy _ => show (decodeOpcode 0xB6#8 0x00#8 0x00#8).row = _ from rfl
  | .laxZpy _ => show (decodeOpcode 0xB7#8 0x00#8 0x00#8).row = _ from rfl
  | .clv => show (decodeOpcode 0xB8#8 0x00#8 0x00#8).row = _ from rfl
  | .ldaAby _ _ => show (decodeOpcode 0xB9#8 0x00#8 0x00#8).row = _ from rfl
  | .tsx => show (decodeOpcode 0xBA#8 0x00#8 0x00#8).row = _ from rfl
  | .las _ _ => show (decodeOpcode 0xBB#8 0x00#8 0x00#8).row = _ from rfl
  | .ldyAbx _ _ => show (decodeOpcode 0xBC#8 0x00#8 0x00#8).row = _ from rfl
  | .ldaAbx _ _ => show (decodeOpcode 0xBD#8 0x00#8 0x00#8).row = _ from rfl
  | .ldxAby _ _ => show (decodeOpcode 0xBE#8 0x00#8 0x00#8).row = _ from rfl
  | .laxAby _ _ => show (decodeOpcode 0xBF#8 0x00#8 0x00#8).row = _ from rfl
  | .cpyImm _ => show (decodeOpcode 0xC0#8 0x00#8 0x00#8).row = _ from rfl
  | .cmpIzx _ => show (decodeOpcode 0xC1#8 0x00#8 0x00#8).row = _ from rfl
  | .nopC2 _ => show (decodeOpcode 0xC2#8 0x00#8 0x00#8).row = _ from rfl
  | .dcpIzx _ => show (decodeOpcode 0xC3#8 0x00#8 0x00#8).row = _ from rfl
  | .cpyZp _ => show (decodeOpcode 0xC4#8 0x00#8 0x00#8).row = _ from rfl
  | .cmpZp _ => show (decodeOpcode 0xC5#8 0x00#8 0x00#8).row = _ from rfl
  | .decZp _ => show (decodeOpcode 0xC6#8 0x00#8 0x00#8).row = _ from rfl
  | .dcpZp _ => show (decodeOpcode 0xC7#8 0x00#8 0x00#8).row = _ from rfl
  | .iny => show (decodeOpcode 0xC8#8 0x00#8 0x00#8).row = _ from rfl
  | .cmpImm _ => show (decodeOpcode 0xC9#8 0x00#8 0x00#8).row = _ from rfl
  | .dex => show (decodeOpcode 0xCA#8 0x00#8 0x00#8).row = _ from rfl
  | .axs _ => show (decodeOpcode 0xCB#8 0x00#8 0x00#8).row = _ from rfl
  | .cpyAbs _ _ => show (decodeOpcode 0xCC#8 0x00#8 0x00#8).row = _ from rfl
  | .cmpAbs _ _ => show (decodeOpcode 0xCD#8 0x00#8 0x00#8).row = _ from rfl
  | .decAbs _ _ => show (decodeOpcode 0xCE#8 0x00#8 0x00#8).row = _ from rfl
  | .dcpAbs _ _ => show (decodeOpcode 0xCF#8 0x00#8 0x00#8).row = _ from rfl
  | .bne _ => show (decodeOpcode 0xD0#8 0x00#8 0x00#8).row = _ from rfl
  | .cmpIzy _ => show (decodeOpcode 0xD1#8 0x00#8 0x00#8).row = _ from rfl
  | .kilD2 => show (decodeOpcode 0xD2#8 0x00#8 0x00#8).row = _ from rfl
  | .dcpIzy _ => show (decodeOpcode 0xD3#8 0x00#8 0x00#8).row = _ from rfl
  | .nopD4 _ => show (decodeOpcode 0xD4#8 0x00#8 0x00#8).row = _ from rfl
  | .cmpZpx _ => show (decodeOpcode 0xD5#8 0x00#8 0x00#8).row = _ from rfl
  | .decZpx _ => show (decodeOpcode 0xD6#8 0x00#8 0x00#8).row = _ from rfl
  | .dcpZpx _ => show (decodeOpcode 0xD7#8 0x00#8 0x00#8).row = _ from rfl
  | .cld => show (decodeOpcode 0xD8#8 0x00#8 0x00#8).row = _ from rfl
  | .cmpAby _ _ => show (decodeOpcode 0xD9#8 0x00#8 0x00#8).row = _ from rfl
  | .nopDA => show (decodeOpcode 0xDA#8 0x00#8 0x00#8).row = _ from rfl
  | .dcpAby _ _ => show (decodeOpcode 0xDB#8 0x00#8 0x00#8).row = _ from rfl
  | .nopDC _ _ => show (decodeOpcode 0xDC#8 0x00#8 0x00#8).row = _ from rfl
  | .cmpAbx _ _ => show (decodeOpcode 0xDD#8 0x00#8 0x00#8).row = _ from rfl
  | .decAbx _ _ => show (decodeOpcode 0xDE#8 0x00#8 0x00#8).row = _ from rfl
  | .dcpAbx _ _ => show (decodeOpcode 0xDF#8 0x00#8 0x00#8).row = _ from rfl
  | .cpxImm _ => show (decodeOpcode 0xE0#8 0x00#8 0x00#8).row = _ from rfl
  | .sbcIzx _ => show (decodeOpcode 0xE1#8 0x00#8 0x00#8).row = _ from rfl
  | .nopE2 _ => show (decodeOpcode 0xE2#8 0x00#8 0x00#8).row = _ from rfl
  | .iscIzx _ => show (decodeOpcode 0xE3#8 0x00#8 0x00#8).row = _ from rfl
  | .cpxZp _ => show (decodeOpcode 0xE4#8 0x00#8 0x00#8).row = _ from rfl
  | .sbcZp _ => show (decodeOpcode 0xE5#8 0x00#8 0x00#8).row = _ from rfl
  | .incZp _ => show (decodeOpcode 0xE6#8 0x00#8 0x00#8).row = _ from rfl
  | .iscZp _ => show (decodeOpcode 0xE7#8 0x00#8 0x00#8).row = _ from rfl
  | .inx => show (decodeOpcode 0xE8#8 0x00#8 0x00#8).row = _ from rfl
  | .sbcImm _ => show (decodeOpcode 0xE9#8 0x00#8 0x00#8).row = _ from rfl
  | .nop => show (decodeOpcode 0xEA#8 0x00#8 0x00#8).row = _ from rfl
  | .sbcEB _ => show (decodeOpcode 0xEB#8 0x00#8 0x00#8).row = _ from rfl
  | .cpxAbs _ _ => show (decodeOpcode 0xEC#8 0x00#8 0x00#8).row = _ from rfl
  | .sbcAbs _ _ => show (decodeOpcode 0xED#8 0x00#8 0x00#8).row = _ from rfl
  | .incAbs _ _ => show (decodeOpcode 0xEE#8 0x00#8 0x00#8).row = _ from rfl
  | .iscAbs _ _ => show (decodeOpcode 0xEF#8 0x00#8 0x00#8).row = _ from rfl
  | .beq _ => show (decodeOpcode 0xF0#8 0x00#8 0x00#8).row = _ from rfl
  | .sbcIzy _ => show (decodeOpcode 0xF1#8 0x00#8 0x00#8).row = _ from rfl
  | .kilF2 => show (decodeOpcode 0xF2#8 0x00#8 0x00#8).row = _ from rfl
  | .iscIzy _ => show (decodeOpcode 0xF3#8 0x00#8 0x00#8).row = _ from rfl
  | .nopF4 _ => show (decodeOpcode 0xF4#8 0x00#8 0x00#8).row = _ from rfl
  | .sbcZpx _ => show (decodeOpcode 0xF5#8 0x00#8 0x00#8).row = _ from rfl
  | .incZpx _ => show (decodeOpcode 0xF6#8 0x00#8 0x00#8).row = _ from rfl
  | .iscZpx _ => show (decodeOpcode 0xF7#8 0x00#8 0x00#8).row = _ from rfl
  | .sed => show (decodeOpcode 0xF8#8 0x00#8 0x00#8).row = _ from rfl
  | .sbcAby _ _ => show (decodeOpcode 0xF9#8 0x00#8 0x00#8).row = _ from rfl
  | .nopFA => show (decodeOpcode 0xFA#8 0x00#8 0x00#8).row = _ from rfl
  | .iscAby _ _ => show (decodeOpcode 0xFB#8 0x00#8 0x00#8).row = _ from rfl
  | .nopFC _ _ => show (decodeOpcode 0xFC#8 0x00#8 0x00#8).row = _ from rfl
  | .sbcAbx _ _ => show (decodeOpcode 0xFD#8 0x00#8 0x00#8).row = _ from rfl
  | .incAbx _ _ => show (decodeOpcode 0xFE#8 0x00#8 0x00#8).row = _ from rfl
  | .iscAbx _ _ => show (decodeOpcode 0xFF#8 0x00#8 0x00#8).row = _ from rfl

/-- The row of an instruction, from its opcode byte. -/
theorem row_eq {i : Instr} {op : Byte} {r : Row} (hi : i.row.opcode = op) (hr : RowAt op r) : i.row = r := by
  have := row_of_opcode i
  rw [hi] at this
  exact this.symm.trans hr

/-- What `exec` answers on a legal row with a memory operand. -/
theorem exec_legal_memory {f : Form} {i : Instr} {mn : Mnemonic} (hi : i.row.opcode = f.opcode)
    (hr : RowAt f.opcode ⟨f.opcode, mn, .addr f.mode, f.base, .legal⟩) (s : State) :
    exec i s = .next (loadBudget (f.base + (f.resolved i s).extra)
      (memSemantic mn (f.resolved i s).opd (f.resolved i s).state)) := by
  rw [exec_eq_dispatchRow, row_eq hi hr]
  rfl

/-- What `exec` answers on an illegal row with a memory operand, gate on. -/
theorem exec_illegal_memory {f : Form} {i : Instr} {mn : Mnemonic} (hi : i.row.opcode = f.opcode)
    (hr : RowAt f.opcode ⟨f.opcode, mn, .addr f.mode, f.base, .illegal⟩) {s : State} (hg : gateOn s) :
    exec i s = .next (loadBudget (f.base + (f.resolved i s).extra)
      (memSemantic mn (f.resolved i s).opd (f.resolved i s).state)) := by
  rw [exec_eq_dispatchRow, row_eq hi hr]
  have : (f.resolved i s).state.straps.illegalOpcodesEnabled = true := by
    simpa [Form.resolved, fetchOpcode, gateOn] using hg
  simp only [Form.resolved] at this ⊢
  simp only [dispatchRow, dispatchIllegal, this, if_true]

/-- What `exec` answers on a legal Implied row. -/
theorem exec_legal_implied {f : BareForm} {i : Instr} {mn : Mnemonic} (hi : i.row.opcode = f.opcode)
    (hr : RowAt f.opcode ⟨f.opcode, mn, .implied, f.base, .legal⟩) (s : State) :
    exec i s = .next (loadBudget f.base (impliedSemantic mn () (fetchOpcode f.opcode s))) := by
  rw [exec_eq_dispatchRow, row_eq hi hr]
  rfl

/-- What `exec` answers on an illegal Implied row, gate on. -/
theorem exec_illegal_implied {f : BareForm} {i : Instr} {mn : Mnemonic} (hi : i.row.opcode = f.opcode)
    (hr : RowAt f.opcode ⟨f.opcode, mn, .implied, f.base, .illegal⟩) {s : State} (hg : gateOn s) :
    exec i s = .next (loadBudget f.base (impliedSemantic mn () (fetchOpcode f.opcode s))) := by
  rw [exec_eq_dispatchRow, row_eq hi hr]
  have hs : (fetchOpcode f.opcode s).straps.illegalOpcodesEnabled = true := hg
  simp only [dispatchRow, dispatchIllegal, implied, hs, if_true, Nat.add_zero]

/-- What `exec` answers on a branch row. -/
theorem exec_relative {i : Instr} {op : Byte} {mn : Mnemonic} (hi : i.row.opcode = op)
    (hr : RowAt op ⟨op, mn, .relative, 2, .legal⟩) (s : State) :
    exec i s = .next (loadBudget 2 (relativeSemantic mn i.byte1 (fetchOperand i.byte1 (fetchOpcode op s)))) := by
  rw [exec_eq_dispatchRow, row_eq hi hr]
  rfl

/-- Only legal rows are Relative. -/
theorem relative_legal (i : Instr) (h : i.row.mode = .relative) : i.row.cls = .legal := by
  cases i <;> first | rfl | exact nomatch h

/-- What a dispatch computes before its cycle budget is loaded: the semantic function of the row on what its resolver
leaves. -/
inductive Effect (i : Instr) (s : State) : State → Prop where
  | implied (h : i.row.mode = .implied) :
      Effect i s (impliedSemantic i.row.mnemonic () (fetchOpcode i.row.opcode s))
  | relative (h : i.row.mode = .relative) :
      Effect i s (relativeSemantic i.row.mnemonic i.byte1 (fetchOperand i.byte1 (fetchOpcode i.row.opcode s)))
  | memory (m : AddrMode) (h : i.row.mode = .addr m) :
      Effect i s (memSemantic i.row.mnemonic (resolve m i.byte1 i.byte2 (fetchOpcode i.row.opcode s)).opd
        (resolve m i.byte1 i.byte2 (fetchOpcode i.row.opcode s)).state)

/-- A gated dispatch: the resolver's state and the notice, nothing else. -/
inductive GatedEffect (i : Instr) (s : State) : State → Prop where
  | implied (h : i.row.mode = .implied) :
      GatedEffect i s (record (.diagnostic i.row.opcode) (fetchOpcode i.row.opcode s))
  | memory (m : AddrMode) (h : i.row.mode = .addr m) :
      GatedEffect i s (record (.diagnostic i.row.opcode)
        (resolve m i.byte1 i.byte2 (fetchOpcode i.row.opcode s)).state)

/-- The bounds of R94: a row's base is from 2 to 8, and at most 7 where its resolver can signal an extra cycle. -/
theorem base_bounds (i : Instr) :
    2 ≤ i.row.base ∧ i.row.base ≤ 8 ∧
      (i.row.mode = .addr .absoluteX ∨ i.row.mode = .addr .absoluteY ∨ i.row.mode = .addr .indirectY →
        i.row.base ≤ 7) := by
  cases i <;> refine ⟨?_, ?_, ?_⟩ <;> first
    | exact Nat.le_of_ble_eq_true rfl
    | exact fun _ => Nat.le_of_ble_eq_true rfl
    | (rintro (h | h | h) <;> exact nomatch h)

/-- The cycles of a memory row stay within 8. -/
theorem base_extra_le {i : Instr} {m : AddrMode} (hm : i.row.mode = .addr m) (s : State) :
    i.row.base + (resolve m i.byte1 i.byte2 s).extra ≤ 8 := by
  have hb := base_bounds i
  have hx := resolve_extra_le m i.byte1 i.byte2 s
  cases m
  case absoluteX => have := hb.2.2 (.inl hm); omega
  case absoluteY => have := hb.2.2 (.inr (.inl hm)); omega
  case indirectY => have := hb.2.2 (.inr (.inr hm)); omega
  all_goals exact hb.2.1

/-- If a meaning answers a next state, that state is the effect of the row with a budget loaded, or, for an illegal row
with the gate off, the gated effect with a budget loaded. The budget is from 2 to 8 (2 on a branch, which adds its own
cycles inside its effect). -/
theorem exec_inversion {i : Instr} {s t : State} (h : exec i s = .next t) :
    ∃ n u, t = loadBudget n u ∧ 2 ≤ n ∧ n ≤ 8 ∧
      ((Effect i s u ∧ (i.row.cls = .illegal → gateOn s)) ∨
        (i.row.cls = .illegal ∧ s.straps.illegalOpcodesEnabled = false ∧ GatedEffect i s u)) := by
  rw [exec_eq_dispatchRow] at h
  have hb := base_bounds i
  rcases hm : i.row.mode with _ | _ | m
  · rcases hc : i.row.cls
    · simp only [dispatchRow, hm, hc, dispatchLegal, Host.Outcome.next.injEq] at h
      exact ⟨_, _, h.symm, hb.1, hb.2.1,
        .inl ⟨.implied hm, nofun⟩⟩
    · simp only [dispatchRow, hm, hc, dispatchIllegal, Host.Outcome.next.injEq] at h
      refine ⟨_, _, h.symm, hb.1, hb.2.1, ?_⟩
      cases hg : s.straps.illegalOpcodesEnabled
      · exact .inr ⟨rfl, rfl, by simpa [implied, fetchOpcode, hg] using GatedEffect.implied (s := s) hm⟩
      · exact .inl ⟨by simpa [implied, fetchOpcode, hg] using Effect.implied (s := s) hm, fun _ => hg⟩
  · have hc := relative_legal i hm
    simp only [dispatchRow, hm, hc, dispatchLegal, Host.Outcome.next.injEq] at h
    exact ⟨_, _, h.symm, hb.1, hb.2.1,
        .inl ⟨.relative hm, fun hc' => by simp [hc] at hc'⟩⟩
  · have hx := base_extra_le hm (fetchOpcode i.row.opcode s)
    rcases hc : i.row.cls
    · simp only [dispatchRow, hm, hc, dispatchLegal, Host.Outcome.next.injEq] at h
      exact ⟨_, _, h.symm, Nat.le_trans hb.1 (Nat.le_add_right _ _), hx, .inl ⟨.memory m hm, nofun⟩⟩
    · simp only [dispatchRow, hm, hc, dispatchIllegal, Host.Outcome.next.injEq] at h
      refine ⟨_, _, h.symm, Nat.le_trans hb.1 (Nat.le_add_right _ _), hx, ?_⟩
      cases hg : s.straps.illegalOpcodesEnabled
      · exact .inr ⟨rfl, rfl, by simpa [fetchOpcode, hg] using GatedEffect.memory (s := s) m hm⟩
      · exact .inl ⟨by simpa [fetchOpcode, hg] using Effect.memory (s := s) m hm, fun _ => hg⟩
end Sys2Proof.Machine
end

