-- ==== Sys2Proof/Laws/Frames.lean ====
section
/-! SUPPORT. The frame of every semantic function, one lemma each: the fields it may write are named, every other field
is that of the state it was given. -/

namespace Sys2Proof.Machine

theorem opAdc_frame (o : MemOperand) (s : State) :
    opAdc o s = { s with a := (opAdc o s).a, p := (opAdc o s).p, trace := (opAdc o s).trace } := rfl
theorem opSbc_frame (o : MemOperand) (s : State) :
    opSbc o s = { s with a := (opSbc o s).a, p := (opSbc o s).p, trace := (opSbc o s).trace } := rfl
theorem opAnd_frame (o : MemOperand) (s : State) :
    opAnd o s = { s with a := (opAnd o s).a, p := (opAnd o s).p, trace := (opAnd o s).trace } := rfl
theorem opOra_frame (o : MemOperand) (s : State) :
    opOra o s = { s with a := (opOra o s).a, p := (opOra o s).p, trace := (opOra o s).trace } := rfl
theorem opEor_frame (o : MemOperand) (s : State) :
    opEor o s = { s with a := (opEor o s).a, p := (opEor o s).p, trace := (opEor o s).trace } := rfl
theorem opBit_frame (o : MemOperand) (s : State) :
    opBit o s = { s with p := (opBit o s).p, trace := (opBit o s).trace } := rfl
theorem opAsl_frame (o : MemOperand) (s : State) :
    opAsl o s = { s with p := (opAsl o s).p, mem := (opAsl o s).mem, trace := (opAsl o s).trace } := rfl
theorem opLsr_frame (o : MemOperand) (s : State) :
    opLsr o s = { s with p := (opLsr o s).p, mem := (opLsr o s).mem, trace := (opLsr o s).trace } := rfl
theorem opRol_frame (o : MemOperand) (s : State) :
    opRol o s = { s with p := (opRol o s).p, mem := (opRol o s).mem, trace := (opRol o s).trace } := rfl
theorem opRor_frame (o : MemOperand) (s : State) :
    opRor o s = { s with p := (opRor o s).p, mem := (opRor o s).mem, trace := (opRor o s).trace } := rfl
theorem opCmp_frame (o : MemOperand) (s : State) :
    opCmp o s = { s with p := (opCmp o s).p, trace := (opCmp o s).trace } := rfl
theorem opCpx_frame (o : MemOperand) (s : State) :
    opCpx o s = { s with p := (opCpx o s).p, trace := (opCpx o s).trace } := rfl
theorem opCpy_frame (o : MemOperand) (s : State) :
    opCpy o s = { s with p := (opCpy o s).p, trace := (opCpy o s).trace } := rfl
theorem opJsr_frame (o : MemOperand) (s : State) :
    opJsr o s =
      { s with
        sp := (opJsr o s).sp
        pc := (opJsr o s).pc
        mem := (opJsr o s).mem
        trace := (opJsr o s).trace } := rfl
theorem opJmp_frame (o : MemOperand) (s : State) : opJmp o s = { s with pc := (opJmp o s).pc } := rfl
theorem opLda_frame (o : MemOperand) (s : State) :
    opLda o s = { s with a := (opLda o s).a, p := (opLda o s).p, trace := (opLda o s).trace } := rfl
theorem opLdx_frame (o : MemOperand) (s : State) :
    opLdx o s = { s with x := (opLdx o s).x, p := (opLdx o s).p, trace := (opLdx o s).trace } := rfl
theorem opLdy_frame (o : MemOperand) (s : State) :
    opLdy o s = { s with y := (opLdy o s).y, p := (opLdy o s).p, trace := (opLdy o s).trace } := rfl
theorem opSta_frame (o : MemOperand) (s : State) :
    opSta o s = { s with mem := (opSta o s).mem, trace := (opSta o s).trace } := rfl
theorem opStx_frame (o : MemOperand) (s : State) :
    opStx o s = { s with mem := (opStx o s).mem, trace := (opStx o s).trace } := rfl
theorem opSty_frame (o : MemOperand) (s : State) :
    opSty o s = { s with mem := (opSty o s).mem, trace := (opSty o s).trace } := rfl
theorem opInc_frame (o : MemOperand) (s : State) :
    opInc o s = { s with p := (opInc o s).p, mem := (opInc o s).mem, trace := (opInc o s).trace } := rfl
theorem opDec_frame (o : MemOperand) (s : State) :
    opDec o s = { s with p := (opDec o s).p, mem := (opDec o s).mem, trace := (opDec o s).trace } := rfl
theorem opSlo_frame (o : MemOperand) (s : State) :
    opSlo o s =
      { s with
        a := (opSlo o s).a
        p := (opSlo o s).p
        mem := (opSlo o s).mem
        trace := (opSlo o s).trace } := rfl
theorem opRla_frame (o : MemOperand) (s : State) :
    opRla o s =
      { s with
        a := (opRla o s).a
        p := (opRla o s).p
        mem := (opRla o s).mem
        trace := (opRla o s).trace } := rfl
theorem opSre_frame (o : MemOperand) (s : State) :
    opSre o s =
      { s with
        a := (opSre o s).a
        p := (opSre o s).p
        mem := (opSre o s).mem
        trace := (opSre o s).trace } := rfl
theorem opRra_frame (o : MemOperand) (s : State) :
    opRra o s =
      { s with
        a := (opRra o s).a
        p := (opRra o s).p
        mem := (opRra o s).mem
        trace := (opRra o s).trace } := rfl
theorem opDcp_frame (o : MemOperand) (s : State) :
    opDcp o s = { s with p := (opDcp o s).p, mem := (opDcp o s).mem, trace := (opDcp o s).trace } := rfl
theorem opIsc_frame (o : MemOperand) (s : State) :
    opIsc o s =
      { s with
        a := (opIsc o s).a
        p := (opIsc o s).p
        mem := (opIsc o s).mem
        trace := (opIsc o s).trace } := rfl
theorem opSax_frame (o : MemOperand) (s : State) :
    opSax o s = { s with mem := (opSax o s).mem, trace := (opSax o s).trace } := rfl
theorem opLax_frame (o : MemOperand) (s : State) :
    opLax o s = { s with a := (opLax o s).a, x := (opLax o s).x, p := (opLax o s).p, trace := (opLax o s).trace } := rfl
theorem opLas_frame (o : MemOperand) (s : State) :
    opLas o s =
      { s with
        a := (opLas o s).a
        x := (opLas o s).x
        sp := (opLas o s).sp
        p := (opLas o s).p
        trace := (opLas o s).trace } := rfl
theorem opAnc_frame (o : MemOperand) (s : State) :
    opAnc o s = { s with a := (opAnc o s).a, p := (opAnc o s).p, trace := (opAnc o s).trace } := rfl
theorem opAlr_frame (o : MemOperand) (s : State) :
    opAlr o s = { s with a := (opAlr o s).a, p := (opAlr o s).p, trace := (opAlr o s).trace } := rfl
theorem opArr_frame (o : MemOperand) (s : State) :
    opArr o s = { s with a := (opArr o s).a, p := (opArr o s).p, trace := (opArr o s).trace } := rfl
theorem opXaa_frame (o : MemOperand) (s : State) :
    opXaa o s = { s with a := (opXaa o s).a, p := (opXaa o s).p, trace := (opXaa o s).trace } := rfl
theorem opAxs_frame (o : MemOperand) (s : State) :
    opAxs o s = { s with x := (opAxs o s).x, p := (opAxs o s).p, trace := (opAxs o s).trace } := rfl
theorem opAhx_frame (o : MemOperand) (s : State) :
    opAhx o s = { s with mem := (opAhx o s).mem, trace := (opAhx o s).trace } := rfl
theorem opShy_frame (o : MemOperand) (s : State) :
    opShy o s = { s with mem := (opShy o s).mem, trace := (opShy o s).trace } := rfl
theorem opShx_frame (o : MemOperand) (s : State) :
    opShx o s = { s with mem := (opShx o s).mem, trace := (opShx o s).trace } := rfl
theorem opTas_frame (o : MemOperand) (s : State) :
    opTas o s = { s with sp := (opTas o s).sp, mem := (opTas o s).mem, trace := (opTas o s).trace } := rfl
theorem opAslAcc_frame (s : State) : opAslAcc () s = { s with a := (opAslAcc () s).a, p := (opAslAcc () s).p } := rfl
theorem opLsrAcc_frame (s : State) : opLsrAcc () s = { s with a := (opLsrAcc () s).a, p := (opLsrAcc () s).p } := rfl
theorem opRolAcc_frame (s : State) : opRolAcc () s = { s with a := (opRolAcc () s).a, p := (opRolAcc () s).p } := rfl
theorem opRorAcc_frame (s : State) : opRorAcc () s = { s with a := (opRorAcc () s).a, p := (opRorAcc () s).p } := rfl
theorem opPha_frame (s : State) :
    opPha () s = { s with sp := (opPha () s).sp, mem := (opPha () s).mem, trace := (opPha () s).trace } := rfl
theorem opPhp_frame (s : State) :
    opPhp () s = { s with sp := (opPhp () s).sp, mem := (opPhp () s).mem, trace := (opPhp () s).trace } := rfl
theorem opPla_frame (s : State) :
    opPla () s =
      { s with
        a := (opPla () s).a
        sp := (opPla () s).sp
        p := (opPla () s).p
        trace := (opPla () s).trace } := rfl
theorem opPlp_frame (s : State) :
    opPlp () s = { s with sp := (opPlp () s).sp, p := (opPlp () s).p, trace := (opPlp () s).trace } := rfl
theorem opRts_frame (s : State) :
    opRts () s = { s with sp := (opRts () s).sp, pc := (opRts () s).pc, trace := (opRts () s).trace } := rfl
theorem opRti_frame (s : State) :
    opRti () s =
      { s with
        sp := (opRti () s).sp
        p := (opRti () s).p
        pc := (opRti () s).pc
        trace := (opRti () s).trace } := rfl
theorem enterInterrupt_frame (w : Addr) (b : Byte) (v : Addr) (s : State) :
    enterInterrupt w b v s =
      { s with
        sp := (enterInterrupt w b v s).sp, p := (enterInterrupt w b v s).p, pc := (enterInterrupt w b v s).pc,
        mem := (enterInterrupt w b v s).mem, trace := (enterInterrupt w b v s).trace } := by
  simp only [enterInterrupt, push16_eq, push, memWrite, read16, memRead, record]
theorem opBrk_frame (s : State) :
    opBrk () s =
      { s with
        sp := (opBrk () s).sp
        p := (opBrk () s).p
        pc := (opBrk () s).pc
        mem := (opBrk () s).mem
        trace := (opBrk () s).trace } := by
  unfold opBrk
  exact enterInterrupt_frame _ _ _ _
theorem opTax_frame (s : State) : opTax () s = { s with x := (opTax () s).x, p := (opTax () s).p } := rfl
theorem opTay_frame (s : State) : opTay () s = { s with y := (opTay () s).y, p := (opTay () s).p } := rfl
theorem opTxa_frame (s : State) : opTxa () s = { s with a := (opTxa () s).a, p := (opTxa () s).p } := rfl
theorem opTya_frame (s : State) : opTya () s = { s with a := (opTya () s).a, p := (opTya () s).p } := rfl
theorem opTsx_frame (s : State) : opTsx () s = { s with x := (opTsx () s).x, p := (opTsx () s).p } := rfl
theorem opTxs_frame (s : State) : opTxs () s = { s with sp := (opTxs () s).sp } := rfl
theorem opClc_frame (s : State) : opClc () s = { s with p := (opClc () s).p } := rfl
theorem opCld_frame (s : State) : opCld () s = { s with p := (opCld () s).p } := rfl
theorem opCli_frame (s : State) : opCli () s = { s with p := (opCli () s).p } := rfl
theorem opClv_frame (s : State) : opClv () s = { s with p := (opClv () s).p } := rfl
theorem opSec_frame (s : State) : opSec () s = { s with p := (opSec () s).p } := rfl
theorem opSed_frame (s : State) : opSed () s = { s with p := (opSed () s).p } := rfl
theorem opSei_frame (s : State) : opSei () s = { s with p := (opSei () s).p } := rfl
theorem opInx_frame (s : State) : opInx () s = { s with x := (opInx () s).x, p := (opInx () s).p } := rfl
theorem opIny_frame (s : State) : opIny () s = { s with y := (opIny () s).y, p := (opIny () s).p } := rfl
theorem opDex_frame (s : State) : opDex () s = { s with x := (opDex () s).x, p := (opDex () s).p } := rfl
theorem opDey_frame (s : State) : opDey () s = { s with y := (opDey () s).y, p := (opDey () s).p } := rfl
theorem opKil_frame (s : State) : opKil () s = { s with halted := (opKil () s).halted } := rfl

/-- A branch writes PC and `remaining_cycles` at most. -/
theorem branch_frame (c : Bool) (n : Byte) (s : State) :
    branch c n s = { s with pc := (branch c n s).pc, remainingCycles := (branch c n s).remainingCycles } := by
  unfold branch
  split <;> rfl

/-- Each branch row is `branch` under some condition. -/
theorem relativeSemantic_eq_branch {i : Instr} (h : i.row.mode = .relative) (n : Byte) (s : State) :
    ∃ c, relativeSemantic i.row.mnemonic n s = branch c n s := by
  cases i <;> first | exact ⟨_, rfl⟩ | exact nomatch h

@[simp] theorem loadBudget_a (n : Nat) (s : State) : (loadBudget n s).a = s.a := by
  unfold loadBudget; split <;> rfl
@[simp] theorem loadBudget_x (n : Nat) (s : State) : (loadBudget n s).x = s.x := by
  unfold loadBudget; split <;> rfl
@[simp] theorem loadBudget_y (n : Nat) (s : State) : (loadBudget n s).y = s.y := by
  unfold loadBudget; split <;> rfl
@[simp] theorem loadBudget_sp (n : Nat) (s : State) : (loadBudget n s).sp = s.sp := by
  unfold loadBudget; split <;> rfl
@[simp] theorem loadBudget_p (n : Nat) (s : State) : (loadBudget n s).p = s.p := by
  unfold loadBudget; split <;> rfl
@[simp] theorem loadBudget_pc (n : Nat) (s : State) : (loadBudget n s).pc = s.pc := by
  unfold loadBudget; split <;> rfl
@[simp] theorem loadBudget_totalCycles (n : Nat) (s : State) : (loadBudget n s).totalCycles = s.totalCycles := by
  unfold loadBudget; split <;> rfl
@[simp] theorem loadBudget_pendingNmi (n : Nat) (s : State) : (loadBudget n s).pendingNmi = s.pendingNmi := by
  unfold loadBudget; split <;> rfl
@[simp] theorem loadBudget_pendingIrq (n : Nat) (s : State) : (loadBudget n s).pendingIrq = s.pendingIrq := by
  unfold loadBudget; split <;> rfl
@[simp] theorem loadBudget_halted (n : Nat) (s : State) : (loadBudget n s).halted = s.halted := by
  unfold loadBudget; split <;> rfl
@[simp] theorem loadBudget_mem (n : Nat) (s : State) : (loadBudget n s).mem = s.mem := by
  unfold loadBudget; split <;> rfl
@[simp] theorem loadBudget_straps (n : Nat) (s : State) : (loadBudget n s).straps = s.straps := by
  unfold loadBudget; split <;> rfl
@[simp] theorem loadBudget_trace (n : Nat) (s : State) : (loadBudget n s).trace = s.trace := by
  unfold loadBudget; split <;> rfl

/-- An interrupt service writes SP, P, PC, `remaining_cycles`, memory and the trace (60_exceptions.md R296). -/
theorem service_frame (v : Addr) (cost : Nat) (s : State) :
    service v cost s =
      { s with
        sp := (service v cost s).sp
        p := (service v cost s).p
        pc := (service v cost s).pc
        remainingCycles := (service v cost s).remainingCycles
        mem := (service v cost s).mem
        trace := (service v cost s).trace } := by
  simp only [service, addCycles, enterInterrupt, push16_eq, push, memWrite, read16, memRead, record]

/-- The live status after a service: InterruptDisable set, nothing else. -/
@[simp] theorem service_p (v : Addr) (cost : Nat) (s : State) :
    (service v cost s).p = setFlag .interruptDisable true s.p := by
  simp only [service, addCycles, enterInterrupt, push16_eq, push, memWrite, read16, memRead, record]

@[simp] theorem service_sp (v : Addr) (cost : Nat) (s : State) :
    (service v cost s).sp = s.sp - 1#8 - 1#8 - 1#8 := by
  simp only [service, addCycles, enterInterrupt, push16_eq, push, memWrite, read16, memRead, record]

@[simp] theorem service_remainingCycles (v : Addr) (cost : Nat) (s : State) :
    (service v cost s).remainingCycles = s.remainingCycles + BitVec.ofNat 8 cost := by
  simp only [service, addCycles, enterInterrupt, push16_eq, push, memWrite, read16, memRead, record]

@[simp] theorem service_mem (v : Addr) (cost : Nat) (s : State) :
    (service v cost s).mem =
      ((s.mem.write (stackAddr s.sp).toNat (highByte s.pc)).write (stackAddr (s.sp - 1#8)).toNat (lowByte s.pc)).write
        (stackAddr (s.sp - 1#8 - 1#8)).toNat (s.p ||| s.straps.intPushBreakMask.toByte) := by
  simp only [service, addCycles, enterInterrupt, push16_eq, push, memWrite, read16, memRead, record]

@[simp] theorem service_a (v : Addr) (cost : Nat) (s : State) :
    (service v cost s).a = s.a := by
  rw [service_frame]
@[simp] theorem service_x (v : Addr) (cost : Nat) (s : State) :
    (service v cost s).x = s.x := by
  rw [service_frame]
@[simp] theorem service_y (v : Addr) (cost : Nat) (s : State) :
    (service v cost s).y = s.y := by
  rw [service_frame]
@[simp] theorem service_totalCycles (v : Addr) (cost : Nat) (s : State) :
    (service v cost s).totalCycles = s.totalCycles := by
  rw [service_frame]
@[simp] theorem service_pendingNmi (v : Addr) (cost : Nat) (s : State) :
    (service v cost s).pendingNmi = s.pendingNmi := by
  rw [service_frame]
@[simp] theorem service_pendingIrq (v : Addr) (cost : Nat) (s : State) :
    (service v cost s).pendingIrq = s.pendingIrq := by
  rw [service_frame]
@[simp] theorem service_halted (v : Addr) (cost : Nat) (s : State) :
    (service v cost s).halted = s.halted := by
  rw [service_frame]
@[simp] theorem service_straps (v : Addr) (cost : Nat) (s : State) :
    (service v cost s).straps = s.straps := by
  rw [service_frame]

end Sys2Proof.Machine
end

