-- ==== Sys2Proof/Laws/PerInstr.lean ====
section
/-! SUPPORT. Facts about every instruction as syntax, one lemma per constructor. -/

namespace Sys2Proof.Laws.RowShape

/-- The row of the instruction is a well-formed row of the dispatch table (30_encoding.md R96), and the instruction
carries exactly the operand bytes its mode consumes (R82). -/
def Statement (i : Instr) : Prop :=
  i.wellFormed = true ∧ i.operands.length = i.row.mode.operandBytes

theorem brk : Statement (.brk) := ⟨rfl, rfl⟩
theorem oraIzx (n : Byte) : Statement (.oraIzx n) := ⟨rfl, rfl⟩
theorem kil02 : Statement (.kil02) := ⟨rfl, rfl⟩
theorem sloIzx (n : Byte) : Statement (.sloIzx n) := ⟨rfl, rfl⟩
theorem nop04 (n : Byte) : Statement (.nop04 n) := ⟨rfl, rfl⟩
theorem oraZp (n : Byte) : Statement (.oraZp n) := ⟨rfl, rfl⟩
theorem aslZp (n : Byte) : Statement (.aslZp n) := ⟨rfl, rfl⟩
theorem sloZp (n : Byte) : Statement (.sloZp n) := ⟨rfl, rfl⟩
theorem php : Statement (.php) := ⟨rfl, rfl⟩
theorem oraImm (n : Byte) : Statement (.oraImm n) := ⟨rfl, rfl⟩
theorem aslAcc : Statement (.aslAcc) := ⟨rfl, rfl⟩
theorem anc0B (n : Byte) : Statement (.anc0B n) := ⟨rfl, rfl⟩
theorem nop0C (l h : Byte) : Statement (.nop0C l h) := ⟨rfl, rfl⟩
theorem oraAbs (l h : Byte) : Statement (.oraAbs l h) := ⟨rfl, rfl⟩
theorem aslAbs (l h : Byte) : Statement (.aslAbs l h) := ⟨rfl, rfl⟩
theorem sloAbs (l h : Byte) : Statement (.sloAbs l h) := ⟨rfl, rfl⟩
theorem bpl (n : Byte) : Statement (.bpl n) := ⟨rfl, rfl⟩
theorem oraIzy (n : Byte) : Statement (.oraIzy n) := ⟨rfl, rfl⟩
theorem kil12 : Statement (.kil12) := ⟨rfl, rfl⟩
theorem sloIzy (n : Byte) : Statement (.sloIzy n) := ⟨rfl, rfl⟩
theorem nop14 (n : Byte) : Statement (.nop14 n) := ⟨rfl, rfl⟩
theorem oraZpx (n : Byte) : Statement (.oraZpx n) := ⟨rfl, rfl⟩
theorem aslZpx (n : Byte) : Statement (.aslZpx n) := ⟨rfl, rfl⟩
theorem sloZpx (n : Byte) : Statement (.sloZpx n) := ⟨rfl, rfl⟩
theorem clc : Statement (.clc) := ⟨rfl, rfl⟩
theorem oraAby (l h : Byte) : Statement (.oraAby l h) := ⟨rfl, rfl⟩
theorem nop1A : Statement (.nop1A) := ⟨rfl, rfl⟩
theorem sloAby (l h : Byte) : Statement (.sloAby l h) := ⟨rfl, rfl⟩
theorem nop1C (l h : Byte) : Statement (.nop1C l h) := ⟨rfl, rfl⟩
theorem oraAbx (l h : Byte) : Statement (.oraAbx l h) := ⟨rfl, rfl⟩
theorem aslAbx (l h : Byte) : Statement (.aslAbx l h) := ⟨rfl, rfl⟩
theorem sloAbx (l h : Byte) : Statement (.sloAbx l h) := ⟨rfl, rfl⟩
theorem jsr (l h : Byte) : Statement (.jsr l h) := ⟨rfl, rfl⟩
theorem andIzx (n : Byte) : Statement (.andIzx n) := ⟨rfl, rfl⟩
theorem kil22 : Statement (.kil22) := ⟨rfl, rfl⟩
theorem rlaIzx (n : Byte) : Statement (.rlaIzx n) := ⟨rfl, rfl⟩
theorem bitZp (n : Byte) : Statement (.bitZp n) := ⟨rfl, rfl⟩
theorem andZp (n : Byte) : Statement (.andZp n) := ⟨rfl, rfl⟩
theorem rolZp (n : Byte) : Statement (.rolZp n) := ⟨rfl, rfl⟩
theorem rlaZp (n : Byte) : Statement (.rlaZp n) := ⟨rfl, rfl⟩
theorem plp : Statement (.plp) := ⟨rfl, rfl⟩
theorem andImm (n : Byte) : Statement (.andImm n) := ⟨rfl, rfl⟩
theorem rolAcc : Statement (.rolAcc) := ⟨rfl, rfl⟩
theorem anc2B (n : Byte) : Statement (.anc2B n) := ⟨rfl, rfl⟩
theorem bitAbs (l h : Byte) : Statement (.bitAbs l h) := ⟨rfl, rfl⟩
theorem andAbs (l h : Byte) : Statement (.andAbs l h) := ⟨rfl, rfl⟩
theorem rolAbs (l h : Byte) : Statement (.rolAbs l h) := ⟨rfl, rfl⟩
theorem rlaAbs (l h : Byte) : Statement (.rlaAbs l h) := ⟨rfl, rfl⟩
theorem bmi (n : Byte) : Statement (.bmi n) := ⟨rfl, rfl⟩
theorem andIzy (n : Byte) : Statement (.andIzy n) := ⟨rfl, rfl⟩
theorem kil32 : Statement (.kil32) := ⟨rfl, rfl⟩
theorem rlaIzy (n : Byte) : Statement (.rlaIzy n) := ⟨rfl, rfl⟩
theorem nop34 (n : Byte) : Statement (.nop34 n) := ⟨rfl, rfl⟩
theorem andZpx (n : Byte) : Statement (.andZpx n) := ⟨rfl, rfl⟩
theorem rolZpx (n : Byte) : Statement (.rolZpx n) := ⟨rfl, rfl⟩
theorem rlaZpx (n : Byte) : Statement (.rlaZpx n) := ⟨rfl, rfl⟩
theorem sec : Statement (.sec) := ⟨rfl, rfl⟩
theorem andAby (l h : Byte) : Statement (.andAby l h) := ⟨rfl, rfl⟩
theorem nop3A : Statement (.nop3A) := ⟨rfl, rfl⟩
theorem rlaAby (l h : Byte) : Statement (.rlaAby l h) := ⟨rfl, rfl⟩
theorem nop3C (l h : Byte) : Statement (.nop3C l h) := ⟨rfl, rfl⟩
theorem andAbx (l h : Byte) : Statement (.andAbx l h) := ⟨rfl, rfl⟩
theorem rolAbx (l h : Byte) : Statement (.rolAbx l h) := ⟨rfl, rfl⟩
theorem rlaAbx (l h : Byte) : Statement (.rlaAbx l h) := ⟨rfl, rfl⟩
theorem rti : Statement (.rti) := ⟨rfl, rfl⟩
theorem eorIzx (n : Byte) : Statement (.eorIzx n) := ⟨rfl, rfl⟩
theorem kil42 : Statement (.kil42) := ⟨rfl, rfl⟩
theorem sreIzx (n : Byte) : Statement (.sreIzx n) := ⟨rfl, rfl⟩
theorem nop44 (n : Byte) : Statement (.nop44 n) := ⟨rfl, rfl⟩
theorem eorZp (n : Byte) : Statement (.eorZp n) := ⟨rfl, rfl⟩
theorem lsrZp (n : Byte) : Statement (.lsrZp n) := ⟨rfl, rfl⟩
theorem sreZp (n : Byte) : Statement (.sreZp n) := ⟨rfl, rfl⟩
theorem pha : Statement (.pha) := ⟨rfl, rfl⟩
theorem eorImm (n : Byte) : Statement (.eorImm n) := ⟨rfl, rfl⟩
theorem lsrAcc : Statement (.lsrAcc) := ⟨rfl, rfl⟩
theorem alr (n : Byte) : Statement (.alr n) := ⟨rfl, rfl⟩
theorem jmpAbs (l h : Byte) : Statement (.jmpAbs l h) := ⟨rfl, rfl⟩
theorem eorAbs (l h : Byte) : Statement (.eorAbs l h) := ⟨rfl, rfl⟩
theorem lsrAbs (l h : Byte) : Statement (.lsrAbs l h) := ⟨rfl, rfl⟩
theorem sreAbs (l h : Byte) : Statement (.sreAbs l h) := ⟨rfl, rfl⟩
theorem bvc (n : Byte) : Statement (.bvc n) := ⟨rfl, rfl⟩
theorem eorIzy (n : Byte) : Statement (.eorIzy n) := ⟨rfl, rfl⟩
theorem kil52 : Statement (.kil52) := ⟨rfl, rfl⟩
theorem sreIzy (n : Byte) : Statement (.sreIzy n) := ⟨rfl, rfl⟩
theorem nop54 (n : Byte) : Statement (.nop54 n) := ⟨rfl, rfl⟩
theorem eorZpx (n : Byte) : Statement (.eorZpx n) := ⟨rfl, rfl⟩
theorem lsrZpx (n : Byte) : Statement (.lsrZpx n) := ⟨rfl, rfl⟩
theorem sreZpx (n : Byte) : Statement (.sreZpx n) := ⟨rfl, rfl⟩
theorem cli : Statement (.cli) := ⟨rfl, rfl⟩
theorem eorAby (l h : Byte) : Statement (.eorAby l h) := ⟨rfl, rfl⟩
theorem nop5A : Statement (.nop5A) := ⟨rfl, rfl⟩
theorem sreAby (l h : Byte) : Statement (.sreAby l h) := ⟨rfl, rfl⟩
theorem nop5C (l h : Byte) : Statement (.nop5C l h) := ⟨rfl, rfl⟩
theorem eorAbx (l h : Byte) : Statement (.eorAbx l h) := ⟨rfl, rfl⟩
theorem lsrAbx (l h : Byte) : Statement (.lsrAbx l h) := ⟨rfl, rfl⟩
theorem sreAbx (l h : Byte) : Statement (.sreAbx l h) := ⟨rfl, rfl⟩
theorem rts : Statement (.rts) := ⟨rfl, rfl⟩
theorem adcIzx (n : Byte) : Statement (.adcIzx n) := ⟨rfl, rfl⟩
theorem kil62 : Statement (.kil62) := ⟨rfl, rfl⟩
theorem rraIzx (n : Byte) : Statement (.rraIzx n) := ⟨rfl, rfl⟩
theorem nop64 (n : Byte) : Statement (.nop64 n) := ⟨rfl, rfl⟩
theorem adcZp (n : Byte) : Statement (.adcZp n) := ⟨rfl, rfl⟩
theorem rorZp (n : Byte) : Statement (.rorZp n) := ⟨rfl, rfl⟩
theorem rraZp (n : Byte) : Statement (.rraZp n) := ⟨rfl, rfl⟩
theorem pla : Statement (.pla) := ⟨rfl, rfl⟩
theorem adcImm (n : Byte) : Statement (.adcImm n) := ⟨rfl, rfl⟩
theorem rorAcc : Statement (.rorAcc) := ⟨rfl, rfl⟩
theorem arr (n : Byte) : Statement (.arr n) := ⟨rfl, rfl⟩
theorem jmpInd (l h : Byte) : Statement (.jmpInd l h) := ⟨rfl, rfl⟩
theorem adcAbs (l h : Byte) : Statement (.adcAbs l h) := ⟨rfl, rfl⟩
theorem rorAbs (l h : Byte) : Statement (.rorAbs l h) := ⟨rfl, rfl⟩
theorem rraAbs (l h : Byte) : Statement (.rraAbs l h) := ⟨rfl, rfl⟩
theorem bvs (n : Byte) : Statement (.bvs n) := ⟨rfl, rfl⟩
theorem adcIzy (n : Byte) : Statement (.adcIzy n) := ⟨rfl, rfl⟩
theorem kil72 : Statement (.kil72) := ⟨rfl, rfl⟩
theorem rraIzy (n : Byte) : Statement (.rraIzy n) := ⟨rfl, rfl⟩
theorem nop74 (n : Byte) : Statement (.nop74 n) := ⟨rfl, rfl⟩
theorem adcZpx (n : Byte) : Statement (.adcZpx n) := ⟨rfl, rfl⟩
theorem rorZpx (n : Byte) : Statement (.rorZpx n) := ⟨rfl, rfl⟩
theorem rraZpx (n : Byte) : Statement (.rraZpx n) := ⟨rfl, rfl⟩
theorem sei : Statement (.sei) := ⟨rfl, rfl⟩
theorem adcAby (l h : Byte) : Statement (.adcAby l h) := ⟨rfl, rfl⟩
theorem nop7A : Statement (.nop7A) := ⟨rfl, rfl⟩
theorem rraAby (l h : Byte) : Statement (.rraAby l h) := ⟨rfl, rfl⟩
theorem nop7C (l h : Byte) : Statement (.nop7C l h) := ⟨rfl, rfl⟩
theorem adcAbx (l h : Byte) : Statement (.adcAbx l h) := ⟨rfl, rfl⟩
theorem rorAbx (l h : Byte) : Statement (.rorAbx l h) := ⟨rfl, rfl⟩
theorem rraAbx (l h : Byte) : Statement (.rraAbx l h) := ⟨rfl, rfl⟩
theorem nop80 (n : Byte) : Statement (.nop80 n) := ⟨rfl, rfl⟩
theorem staIzx (n : Byte) : Statement (.staIzx n) := ⟨rfl, rfl⟩
theorem nop82 (n : Byte) : Statement (.nop82 n) := ⟨rfl, rfl⟩
theorem saxIzx (n : Byte) : Statement (.saxIzx n) := ⟨rfl, rfl⟩
theorem styZp (n : Byte) : Statement (.styZp n) := ⟨rfl, rfl⟩
theorem staZp (n : Byte) : Statement (.staZp n) := ⟨rfl, rfl⟩
theorem stxZp (n : Byte) : Statement (.stxZp n) := ⟨rfl, rfl⟩
theorem saxZp (n : Byte) : Statement (.saxZp n) := ⟨rfl, rfl⟩
theorem dey : Statement (.dey) := ⟨rfl, rfl⟩
theorem nop89 (n : Byte) : Statement (.nop89 n) := ⟨rfl, rfl⟩
theorem txa : Statement (.txa) := ⟨rfl, rfl⟩
theorem xaa (n : Byte) : Statement (.xaa n) := ⟨rfl, rfl⟩
theorem styAbs (l h : Byte) : Statement (.styAbs l h) := ⟨rfl, rfl⟩
theorem staAbs (l h : Byte) : Statement (.staAbs l h) := ⟨rfl, rfl⟩
theorem stxAbs (l h : Byte) : Statement (.stxAbs l h) := ⟨rfl, rfl⟩
theorem saxAbs (l h : Byte) : Statement (.saxAbs l h) := ⟨rfl, rfl⟩
theorem bcc (n : Byte) : Statement (.bcc n) := ⟨rfl, rfl⟩
theorem staIzy (n : Byte) : Statement (.staIzy n) := ⟨rfl, rfl⟩
theorem kil92 : Statement (.kil92) := ⟨rfl, rfl⟩
theorem ahxIzy (n : Byte) : Statement (.ahxIzy n) := ⟨rfl, rfl⟩
theorem styZpx (n : Byte) : Statement (.styZpx n) := ⟨rfl, rfl⟩
theorem staZpx (n : Byte) : Statement (.staZpx n) := ⟨rfl, rfl⟩
theorem stxZpy (n : Byte) : Statement (.stxZpy n) := ⟨rfl, rfl⟩
theorem saxZpy (n : Byte) : Statement (.saxZpy n) := ⟨rfl, rfl⟩
theorem tya : Statement (.tya) := ⟨rfl, rfl⟩
theorem staAby (l h : Byte) : Statement (.staAby l h) := ⟨rfl, rfl⟩
theorem txs : Statement (.txs) := ⟨rfl, rfl⟩
theorem tas (l h : Byte) : Statement (.tas l h) := ⟨rfl, rfl⟩
theorem shy (l h : Byte) : Statement (.shy l h) := ⟨rfl, rfl⟩
theorem staAbx (l h : Byte) : Statement (.staAbx l h) := ⟨rfl, rfl⟩
theorem shx (l h : Byte) : Statement (.shx l h) := ⟨rfl, rfl⟩
theorem ahxAby (l h : Byte) : Statement (.ahxAby l h) := ⟨rfl, rfl⟩
theorem ldyImm (n : Byte) : Statement (.ldyImm n) := ⟨rfl, rfl⟩
theorem ldaIzx (n : Byte) : Statement (.ldaIzx n) := ⟨rfl, rfl⟩
theorem ldxImm (n : Byte) : Statement (.ldxImm n) := ⟨rfl, rfl⟩
theorem laxIzx (n : Byte) : Statement (.laxIzx n) := ⟨rfl, rfl⟩
theorem ldyZp (n : Byte) : Statement (.ldyZp n) := ⟨rfl, rfl⟩
theorem ldaZp (n : Byte) : Statement (.ldaZp n) := ⟨rfl, rfl⟩
theorem ldxZp (n : Byte) : Statement (.ldxZp n) := ⟨rfl, rfl⟩
theorem laxZp (n : Byte) : Statement (.laxZp n) := ⟨rfl, rfl⟩
theorem tay : Statement (.tay) := ⟨rfl, rfl⟩
theorem ldaImm (n : Byte) : Statement (.ldaImm n) := ⟨rfl, rfl⟩
theorem tax : Statement (.tax) := ⟨rfl, rfl⟩
theorem laxImm (n : Byte) : Statement (.laxImm n) := ⟨rfl, rfl⟩
theorem ldyAbs (l h : Byte) : Statement (.ldyAbs l h) := ⟨rfl, rfl⟩
theorem ldaAbs (l h : Byte) : Statement (.ldaAbs l h) := ⟨rfl, rfl⟩
theorem ldxAbs (l h : Byte) : Statement (.ldxAbs l h) := ⟨rfl, rfl⟩
theorem laxAbs (l h : Byte) : Statement (.laxAbs l h) := ⟨rfl, rfl⟩
theorem bcs (n : Byte) : Statement (.bcs n) := ⟨rfl, rfl⟩
theorem ldaIzy (n : Byte) : Statement (.ldaIzy n) := ⟨rfl, rfl⟩
theorem kilB2 : Statement (.kilB2) := ⟨rfl, rfl⟩
theorem laxIzy (n : Byte) : Statement (.laxIzy n) := ⟨rfl, rfl⟩
theorem ldyZpx (n : Byte) : Statement (.ldyZpx n) := ⟨rfl, rfl⟩
theorem ldaZpx (n : Byte) : Statement (.ldaZpx n) := ⟨rfl, rfl⟩
theorem ldxZpy (n : Byte) : Statement (.ldxZpy n) := ⟨rfl, rfl⟩
theorem laxZpy (n : Byte) : Statement (.laxZpy n) := ⟨rfl, rfl⟩
theorem clv : Statement (.clv) := ⟨rfl, rfl⟩
theorem ldaAby (l h : Byte) : Statement (.ldaAby l h) := ⟨rfl, rfl⟩
theorem tsx : Statement (.tsx) := ⟨rfl, rfl⟩
theorem las (l h : Byte) : Statement (.las l h) := ⟨rfl, rfl⟩
theorem ldyAbx (l h : Byte) : Statement (.ldyAbx l h) := ⟨rfl, rfl⟩
theorem ldaAbx (l h : Byte) : Statement (.ldaAbx l h) := ⟨rfl, rfl⟩
theorem ldxAby (l h : Byte) : Statement (.ldxAby l h) := ⟨rfl, rfl⟩
theorem laxAby (l h : Byte) : Statement (.laxAby l h) := ⟨rfl, rfl⟩
theorem cpyImm (n : Byte) : Statement (.cpyImm n) := ⟨rfl, rfl⟩
theorem cmpIzx (n : Byte) : Statement (.cmpIzx n) := ⟨rfl, rfl⟩
theorem nopC2 (n : Byte) : Statement (.nopC2 n) := ⟨rfl, rfl⟩
theorem dcpIzx (n : Byte) : Statement (.dcpIzx n) := ⟨rfl, rfl⟩
theorem cpyZp (n : Byte) : Statement (.cpyZp n) := ⟨rfl, rfl⟩
theorem cmpZp (n : Byte) : Statement (.cmpZp n) := ⟨rfl, rfl⟩
theorem decZp (n : Byte) : Statement (.decZp n) := ⟨rfl, rfl⟩
theorem dcpZp (n : Byte) : Statement (.dcpZp n) := ⟨rfl, rfl⟩
theorem iny : Statement (.iny) := ⟨rfl, rfl⟩
theorem cmpImm (n : Byte) : Statement (.cmpImm n) := ⟨rfl, rfl⟩
theorem dex : Statement (.dex) := ⟨rfl, rfl⟩
theorem axs (n : Byte) : Statement (.axs n) := ⟨rfl, rfl⟩
theorem cpyAbs (l h : Byte) : Statement (.cpyAbs l h) := ⟨rfl, rfl⟩
theorem cmpAbs (l h : Byte) : Statement (.cmpAbs l h) := ⟨rfl, rfl⟩
theorem decAbs (l h : Byte) : Statement (.decAbs l h) := ⟨rfl, rfl⟩
theorem dcpAbs (l h : Byte) : Statement (.dcpAbs l h) := ⟨rfl, rfl⟩
theorem bne (n : Byte) : Statement (.bne n) := ⟨rfl, rfl⟩
theorem cmpIzy (n : Byte) : Statement (.cmpIzy n) := ⟨rfl, rfl⟩
theorem kilD2 : Statement (.kilD2) := ⟨rfl, rfl⟩
theorem dcpIzy (n : Byte) : Statement (.dcpIzy n) := ⟨rfl, rfl⟩
theorem nopD4 (n : Byte) : Statement (.nopD4 n) := ⟨rfl, rfl⟩
theorem cmpZpx (n : Byte) : Statement (.cmpZpx n) := ⟨rfl, rfl⟩
theorem decZpx (n : Byte) : Statement (.decZpx n) := ⟨rfl, rfl⟩
theorem dcpZpx (n : Byte) : Statement (.dcpZpx n) := ⟨rfl, rfl⟩
theorem cld : Statement (.cld) := ⟨rfl, rfl⟩
theorem cmpAby (l h : Byte) : Statement (.cmpAby l h) := ⟨rfl, rfl⟩
theorem nopDA : Statement (.nopDA) := ⟨rfl, rfl⟩
theorem dcpAby (l h : Byte) : Statement (.dcpAby l h) := ⟨rfl, rfl⟩
theorem nopDC (l h : Byte) : Statement (.nopDC l h) := ⟨rfl, rfl⟩
theorem cmpAbx (l h : Byte) : Statement (.cmpAbx l h) := ⟨rfl, rfl⟩
theorem decAbx (l h : Byte) : Statement (.decAbx l h) := ⟨rfl, rfl⟩
theorem dcpAbx (l h : Byte) : Statement (.dcpAbx l h) := ⟨rfl, rfl⟩
theorem cpxImm (n : Byte) : Statement (.cpxImm n) := ⟨rfl, rfl⟩
theorem sbcIzx (n : Byte) : Statement (.sbcIzx n) := ⟨rfl, rfl⟩
theorem nopE2 (n : Byte) : Statement (.nopE2 n) := ⟨rfl, rfl⟩
theorem iscIzx (n : Byte) : Statement (.iscIzx n) := ⟨rfl, rfl⟩
theorem cpxZp (n : Byte) : Statement (.cpxZp n) := ⟨rfl, rfl⟩
theorem sbcZp (n : Byte) : Statement (.sbcZp n) := ⟨rfl, rfl⟩
theorem incZp (n : Byte) : Statement (.incZp n) := ⟨rfl, rfl⟩
theorem iscZp (n : Byte) : Statement (.iscZp n) := ⟨rfl, rfl⟩
theorem inx : Statement (.inx) := ⟨rfl, rfl⟩
theorem sbcImm (n : Byte) : Statement (.sbcImm n) := ⟨rfl, rfl⟩
theorem nop : Statement (.nop) := ⟨rfl, rfl⟩
theorem sbcEB (n : Byte) : Statement (.sbcEB n) := ⟨rfl, rfl⟩
theorem cpxAbs (l h : Byte) : Statement (.cpxAbs l h) := ⟨rfl, rfl⟩
theorem sbcAbs (l h : Byte) : Statement (.sbcAbs l h) := ⟨rfl, rfl⟩
theorem incAbs (l h : Byte) : Statement (.incAbs l h) := ⟨rfl, rfl⟩
theorem iscAbs (l h : Byte) : Statement (.iscAbs l h) := ⟨rfl, rfl⟩
theorem beq (n : Byte) : Statement (.beq n) := ⟨rfl, rfl⟩
theorem sbcIzy (n : Byte) : Statement (.sbcIzy n) := ⟨rfl, rfl⟩
theorem kilF2 : Statement (.kilF2) := ⟨rfl, rfl⟩
theorem iscIzy (n : Byte) : Statement (.iscIzy n) := ⟨rfl, rfl⟩
theorem nopF4 (n : Byte) : Statement (.nopF4 n) := ⟨rfl, rfl⟩
theorem sbcZpx (n : Byte) : Statement (.sbcZpx n) := ⟨rfl, rfl⟩
theorem incZpx (n : Byte) : Statement (.incZpx n) := ⟨rfl, rfl⟩
theorem iscZpx (n : Byte) : Statement (.iscZpx n) := ⟨rfl, rfl⟩
theorem sed : Statement (.sed) := ⟨rfl, rfl⟩
theorem sbcAby (l h : Byte) : Statement (.sbcAby l h) := ⟨rfl, rfl⟩
theorem nopFA : Statement (.nopFA) := ⟨rfl, rfl⟩
theorem iscAby (l h : Byte) : Statement (.iscAby l h) := ⟨rfl, rfl⟩
theorem nopFC (l h : Byte) : Statement (.nopFC l h) := ⟨rfl, rfl⟩
theorem sbcAbx (l h : Byte) : Statement (.sbcAbx l h) := ⟨rfl, rfl⟩
theorem incAbx (l h : Byte) : Statement (.incAbx l h) := ⟨rfl, rfl⟩
theorem iscAbx (l h : Byte) : Statement (.iscAbx l h) := ⟨rfl, rfl⟩

end Sys2Proof.Laws.RowShape
end

