-- ==== Sys2Proof/Laws/Step.lean ====
section
/-! SUPPORT. Everything one tick can do, said once (50_execution_engine.md R276). -/

namespace Sys2Proof.Machine

/-- If a tick answers `t`, it was a halted tick, a countdown, an NMI service, an IRQ service, or a dispatch. -/
theorem step_inversion {s t : State} (h : step s = .next t) :
    (s.halted = true ∧ t = s) ∨
    (s.halted = false ∧ s.remainingCycles ≠ 0x00#8 ∧ t = endTick s) ∨
    (s.halted = false ∧ s.remainingCycles = 0x00#8 ∧ s.pendingNmi = true ∧
      t = endTick (service nmiVector 8 { s with pendingNmi := false })) ∨
    (s.halted = false ∧ s.remainingCycles = 0x00#8 ∧ s.pendingNmi = false ∧ s.pendingIrq = true ∧
      getFlag .interruptDisable s.p = false ∧ t = endTick (service irqVector 7 { s with pendingIrq := false })) ∨
    (Dispatches s ∧ ∃ u, exec (fetchedInstr s) s = .next u ∧ t = if u.halted then u else endTick u) := by
  unfold step at h
  split at h
  · rename_i hh
    exact .inl ⟨hh, (Host.Outcome.next.inj h).symm⟩
  rename_i hh
  rw [Bool.not_eq_true] at hh
  split at h
  · rename_i hr
    unfold boundaryTick at h
    split at h
    · rename_i hn
      exact .inr (.inr (.inl ⟨hh, hr, hn, (Host.Outcome.next.inj h).symm⟩))
    rename_i hn
    rw [Bool.not_eq_true] at hn
    split at h
    · rename_i hq
      rw [Bool.and_eq_true, Bool.not_eq_true'] at hq
      exact .inr (.inr (.inr (.inl ⟨hh, hr, hn, hq.1, hq.2, (Host.Outcome.next.inj h).symm⟩)))
    · rename_i hq
      have hi : s.pendingIrq = false ∨ getFlag .interruptDisable s.p = true := by
        revert hq
        cases s.pendingIrq <;> cases getFlag .interruptDisable s.p <;> simp
      refine .inr (.inr (.inr (.inr ⟨⟨hh, hr, hn, hi⟩, ?_⟩)))
      cases hx : exec (fetchedInstr s) s with
      | next u => rw [hx] at h; exact ⟨u, rfl, (Host.Outcome.next.inj h).symm⟩
      | fault f => nomatch f
      | refused r => rw [hx] at h; nomatch h
  · rename_i hr
    exact .inr (.inl ⟨hh, hr, (Host.Outcome.next.inj h).symm⟩)

end Sys2Proof.Machine
end

