-- ==== Sys2Proof/Laws/Trace.lean ====
section
/-! SUPPORT. What a semantic function records in the trace and stores in memory: the accesses of `semanticAccesses`, and
the memory that replaying its writes gives. -/

namespace Sys2Proof.Machine

/-- Memory after the writes among the events (newest first) have been made, oldest first. -/
def replay : List PortEvent → Memory → Memory
  | [], m => m
  | .write a v :: es, m => (replay es m).write a.toNat v
  | .read _ _ :: es, m => replay es m
  | .diagnostic _ :: es, m => replay es m

/-- Replaying events keeps the canonical form. -/
theorem replay_wf {m : Memory} (h : m.wf = true) : ∀ es, (replay es m).wf = true
  | [] => h
  | .write a v :: es => Memory.wf_write (replay_wf h es) v a.isLt
  | .read _ _ :: es => replay_wf h es
  | .diagnostic _ :: es => replay_wf h es

/-- A byte reads as the newest write among the events left it, and as before where there was none. -/
theorem replay_read {m : Memory} (h : m.wf = true) (b : Addr) :
    ∀ es, (replay es m).read b.toNat = (lastWrite b es).getD (m.read b.toNat)
  | [] => rfl
  | .write a v :: es => by
    rw [replay, Memory.read_write (replay_wf h es)]
    simp only [lastWrite, BitVec.toNat_inj]
    by_cases e : a = b
    · subst e; simp
    · rw [if_neg (Ne.symm e), if_neg e]; exact replay_read h b es
  | .read _ _ :: es => replay_read h b es
  | .diagnostic _ :: es => replay_read h b es

/-- Reads change no memory. -/
theorem replay_reads {es : List PortEvent} (h : ∀ e ∈ es, ∃ a v, e = .read a v) (m : Memory) : replay es m = m := by
  induction es with
  | nil => rfl
  | cons e es ih =>
    obtain ⟨a, v, rfl⟩ := h e List.mem_cons_self
    exact ih fun e he => h e (List.mem_cons_of_mem _ he)

theorem replay_append (es fs : List PortEvent) (m : Memory) : replay (es ++ fs) m = replay es (replay fs m) := by
  induction es with
  | nil => rfl
  | cons e es ih => cases e <;> simp [replay, ih]

/-- From `s` to `u` exactly the accesses `ks` were made, oldest first, and memory holds what they wrote. -/
def Recorded (ks : List (AccessKind × Addr)) (s u : State) : Prop :=
  ∃ es : List PortEvent,
    u.trace = es ++ s.trace ∧ u.mem = replay es s.mem ∧ es.reverse.map PortEvent.access = ks.map some

/-- The semantic functions that take a memory operand. -/
theorem memSemantic_recorded (mn : Mnemonic) (o : MemOperand) (s : State)
    (h : mn ∉ [.pha, .php, .pla, .plp, .rts, .rti, .brk]) :
    Recorded (semanticAccesses (some o.ea) s.sp mn) s (memSemantic mn o s) := by
  cases mn <;> first
    | exact absurd (by decide) h
    | exact ⟨[], rfl, rfl, rfl⟩
    | exact ⟨[_], rfl, rfl, rfl⟩
    | exact ⟨[_, _], rfl, rfl, rfl⟩
    | exact ⟨[_, _, _], rfl, rfl, rfl⟩

/-- The semantic functions that take no operand. -/
theorem impliedSemantic_recorded (mn : Mnemonic) (s : State) (h : mn ≠ .jsr) :
    Recorded (semanticAccesses none s.sp mn) s (impliedSemantic mn () s) := by
  have sub2 : s.sp - 1#8 - 1#8 = s.sp - 2#8 := by bv_omega
  have add2 : s.sp + 1#8 + 1#8 = s.sp + 2#8 := by bv_omega
  have add3 : s.sp + 2#8 + 1#8 = s.sp + 3#8 := by bv_omega
  cases mn
  case jsr => exact absurd rfl h
  case pha => exact ⟨[_], rfl, rfl, rfl⟩
  case php => exact ⟨[_], rfl, rfl, rfl⟩
  case pla => exact ⟨[_], rfl, rfl, rfl⟩
  case plp => exact ⟨[_], rfl, rfl, rfl⟩
  case rts => exact ⟨[_, _], rfl, rfl, by simp [semanticAccesses, PortEvent.access, add2]⟩
  case rti =>
    exact ⟨[.read (stackAddr (s.sp + 1#8 + 1#8 + 1#8)) _, .read (stackAddr (s.sp + 1#8 + 1#8)) _,
      .read (stackAddr (s.sp + 1#8)) _], rfl, rfl, by simp [semanticAccesses, PortEvent.access, add2, add3]⟩
  case brk =>
    exact ⟨[.read 0xFFFF#16 _, .read 0xFFFE#16 _, .write (stackAddr (s.sp - 1#8 - 1#8)) (s.p ||| 0x30#8),
      .write (stackAddr (s.sp - 1#8)) (lowByte (s.pc + 1#16)), .write (stackAddr s.sp) (highByte (s.pc + 1#16))],
      rfl, rfl, by simp [semanticAccesses, PortEvent.access, sub2]⟩
  all_goals exact ⟨[], rfl, rfl, rfl⟩

end Sys2Proof.Machine
end

