-- ==== Sys2Proof/Tests/Slice0.lean ====
section
/-! SUPPORT. Tests of one step and the witnesses of the obligations. Every expected result is taken from the spec: the
id in the comment above a test is that of a row of spec/95_test_vectors.md, or the comment cites the rule. The defaults
are those of section 0 of that file (A = X = Y = 0x00, SP = 0xFD, P = 0x24, RAM bus). -/

namespace Sys2Proof.Tests.Slice0
open Sys2Proof Sys2Proof.Machine

/-- Memory with the bytes listed. -/
def ram (l : List (Nat × Byte)) : Memory := l.foldl (fun m e => m.write e.1 e.2) []

/-- The default configuration of the vectors, and the two others they use. -/
def plain : Config := ⟨false, false, .v24, .both⟩
def gated : Config := ⟨false, true, .v24, .both⟩
def bcd : Config := ⟨true, false, .v24, .both⟩

/-- The default start state at `pc`, with the program's bytes from `pc` on and the data bytes listed. -/
def boot (cfg : Config) (pc : Addr) (program : List Byte) (data : List (Nat × Byte)) : State :=
  powerOn cfg pc (ram (data ++ program.mapIdx (fun k b => ((pc.toNat + k) % 65536, b))))

def stepped : Result → Option State
  | .next t => some t
  | _ => none

/-- After one step: A, X, Y, SP, P; PC; the cycles of the instruction (the budget left and the tick spent); the bytes
at the addresses listed. -/
def seen (addrs : List Nat) (s : State) : Option (List Byte × Addr × Nat × List Byte) :=
  (stepped (step s)).map fun t =>
    ([t.a, t.x, t.y, t.sp, t.p], t.pc, t.remainingCycles.toNat + t.totalCycles, addrs.map t.mem.read)

/-- The port events of one step, oldest first. -/
def portEvents (s : State) : Option (List PortEvent) := (stepped (step s)).map fun t => t.trace.reverse

/-! ## Decoding: words written out from the encoding tables (30_encoding.md R81, R85) -/

-- R85: column 1 of row 7 is ADC Indirect,Y, format F2.
theorem test_decode_arithmetic : decode [0x71#8, 0x44#8] = .ok (.adcIzy 0x44#8, []) := by decide
-- R85: row 3, column D is AND Absolute,X, format F3, low byte first.
theorem test_decode_logical : decode [0x3D#8, 0x34#8, 0x12#8] = .ok (.andAbx 0x34#8 0x12#8, []) := by decide
-- R85: row 4, column A is LSR on A; row 7, column 6 is ROR Zero Page,X.
theorem test_decode_shift : decode [0x4A#8, 0x76#8, 0x10#8] = .ok (.lsrAcc, [0x76#8, 0x10#8]) := by decide
theorem test_decode_rotate : decode [0x76#8, 0x10#8] = .ok (.rorZpx 0x10#8, []) := by decide
-- R85: row 5, column 0 is BVC.
theorem test_decode_branch : decode [0x50#8, 0x80#8] = .ok (.bvc 0x80#8, []) := by decide
-- R85: row E, column 0 is CPX Immediate.
theorem test_decode_compare : decode [0xE0#8, 0x05#8] = .ok (.cpxImm 0x05#8, []) := by decide
-- R85: row 2, column 0 is JSR Absolute.
theorem test_decode_stack_control : decode [0x20#8, 0x00#8, 0x06#8] = .ok (.jsr 0x00#8 0x06#8, []) := by decide
-- R85: row B, column A is TSX.
theorem test_decode_transfer : decode [0xBA#8] = .ok (.tsx, []) := by decide
-- R85: row 9, column 6 is STX Zero Page,Y; row D, column E is DEC Absolute,X.
theorem test_decode_store : decode [0x96#8, 0x10#8] = .ok (.stxZpy 0x10#8, []) := by decide
theorem test_decode_incdec : decode [0xDE#8, 0xFF#8, 0x12#8] = .ok (.decAbx 0xFF#8 0x12#8, []) := by decide
-- R85: row 9, column B is TAS; row F, column C is the undocumented NOP Absolute,X.
theorem test_decode_illegal : decode [0x9B#8, 0x00#8, 0x12#8] = .ok (.tas 0x00#8 0x12#8, []) := by decide
theorem test_decode_nop : decode [0xFC#8, 0x01#8, 0x02#8] = .ok (.nopFC 0x01#8 0x02#8, []) := by decide
-- R81: too few bytes are refused by name.
theorem test_decode_empty : decode [] = .error .noBytes := by decide
theorem test_decode_short : decode [0xAD#8, 0x34#8] = .error (.truncated 0xAD#8) := by decide
-- R81: `4C 00 06` numbered from bit 0 of the first byte.
theorem test_decodeTableWord : decodeTableWord 24 0x06004C = some (.jmpAbs 0x00#8 0x06#8) := by decide
theorem test_decodeTableWord_zero_operand : decodeTableWord 8 0xA9 = some (.ldaImm 0x00#8) := by decide
-- R84, R85 and section 5: 151 legal bytes; base costs sum to 1067, lengths to 546, over all 256 bytes.
theorem test_table_sums :
    (let rows := (List.range 256).map fun k => (decodeOpcode (BitVec.ofNat 8 k) 0x00#8 0x00#8).row
     ((rows.filter fun r => r.cls = .legal).length, (rows.map Row.base).sum,
       (rows.map fun r => 1 + r.mode.operandBytes).sum)) = (151, 1067, 546) := by
  decide +kernel

/-! Every opcode byte, with operand bytes 0x34 and 0x12, in the order of R85. -/

theorem test_decode_opcodes_00_to_0F :
    [0x00#8, 0x01#8, 0x02#8, 0x03#8, 0x04#8, 0x05#8, 0x06#8, 0x07#8, 0x08#8, 0x09#8, 0x0A#8, 0x0B#8, 0x0C#8,
      0x0D#8, 0x0E#8, 0x0F#8].map
      (fun op => decodeOpcode op 0x34#8 0x12#8) =
    [.brk, .oraIzx 0x34#8, .kil02, .sloIzx 0x34#8, .nop04 0x34#8, .oraZp 0x34#8, .aslZp 0x34#8, .sloZp 0x34#8,
      .php, .oraImm 0x34#8, .aslAcc, .anc0B 0x34#8, .nop0C 0x34#8 0x12#8, .oraAbs 0x34#8 0x12#8,
      .aslAbs 0x34#8 0x12#8, .sloAbs 0x34#8 0x12#8] := by
  decide

theorem test_decode_opcodes_10_to_1F :
    [0x10#8, 0x11#8, 0x12#8, 0x13#8, 0x14#8, 0x15#8, 0x16#8, 0x17#8, 0x18#8, 0x19#8, 0x1A#8, 0x1B#8, 0x1C#8,
      0x1D#8, 0x1E#8, 0x1F#8].map
      (fun op => decodeOpcode op 0x34#8 0x12#8) =
    [.bpl 0x34#8, .oraIzy 0x34#8, .kil12, .sloIzy 0x34#8, .nop14 0x34#8, .oraZpx 0x34#8, .aslZpx 0x34#8,
      .sloZpx 0x34#8, .clc, .oraAby 0x34#8 0x12#8, .nop1A, .sloAby 0x34#8 0x12#8, .nop1C 0x34#8 0x12#8,
      .oraAbx 0x34#8 0x12#8, .aslAbx 0x34#8 0x12#8, .sloAbx 0x34#8 0x12#8] := by
  decide

theorem test_decode_opcodes_20_to_2F :
    [0x20#8, 0x21#8, 0x22#8, 0x23#8, 0x24#8, 0x25#8, 0x26#8, 0x27#8, 0x28#8, 0x29#8, 0x2A#8, 0x2B#8, 0x2C#8,
      0x2D#8, 0x2E#8, 0x2F#8].map
      (fun op => decodeOpcode op 0x34#8 0x12#8) =
    [.jsr 0x34#8 0x12#8, .andIzx 0x34#8, .kil22, .rlaIzx 0x34#8, .bitZp 0x34#8, .andZp 0x34#8, .rolZp 0x34#8,
      .rlaZp 0x34#8, .plp, .andImm 0x34#8, .rolAcc, .anc2B 0x34#8, .bitAbs 0x34#8 0x12#8,
      .andAbs 0x34#8 0x12#8, .rolAbs 0x34#8 0x12#8, .rlaAbs 0x34#8 0x12#8] := by
  decide

theorem test_decode_opcodes_30_to_3F :
    [0x30#8, 0x31#8, 0x32#8, 0x33#8, 0x34#8, 0x35#8, 0x36#8, 0x37#8, 0x38#8, 0x39#8, 0x3A#8, 0x3B#8, 0x3C#8,
      0x3D#8, 0x3E#8, 0x3F#8].map
      (fun op => decodeOpcode op 0x34#8 0x12#8) =
    [.bmi 0x34#8, .andIzy 0x34#8, .kil32, .rlaIzy 0x34#8, .nop34 0x34#8, .andZpx 0x34#8, .rolZpx 0x34#8,
      .rlaZpx 0x34#8, .sec, .andAby 0x34#8 0x12#8, .nop3A, .rlaAby 0x34#8 0x12#8, .nop3C 0x34#8 0x12#8,
      .andAbx 0x34#8 0x12#8, .rolAbx 0x34#8 0x12#8, .rlaAbx 0x34#8 0x12#8] := by
  decide

theorem test_decode_opcodes_40_to_4F :
    [0x40#8, 0x41#8, 0x42#8, 0x43#8, 0x44#8, 0x45#8, 0x46#8, 0x47#8, 0x48#8, 0x49#8, 0x4A#8, 0x4B#8, 0x4C#8,
      0x4D#8, 0x4E#8, 0x4F#8].map
      (fun op => decodeOpcode op 0x34#8 0x12#8) =
    [.rti, .eorIzx 0x34#8, .kil42, .sreIzx 0x34#8, .nop44 0x34#8, .eorZp 0x34#8, .lsrZp 0x34#8, .sreZp 0x34#8,
      .pha, .eorImm 0x34#8, .lsrAcc, .alr 0x34#8, .jmpAbs 0x34#8 0x12#8, .eorAbs 0x34#8 0x12#8,
      .lsrAbs 0x34#8 0x12#8, .sreAbs 0x34#8 0x12#8] := by
  decide

theorem test_decode_opcodes_50_to_5F :
    [0x50#8, 0x51#8, 0x52#8, 0x53#8, 0x54#8, 0x55#8, 0x56#8, 0x57#8, 0x58#8, 0x59#8, 0x5A#8, 0x5B#8, 0x5C#8,
      0x5D#8, 0x5E#8, 0x5F#8].map
      (fun op => decodeOpcode op 0x34#8 0x12#8) =
    [.bvc 0x34#8, .eorIzy 0x34#8, .kil52, .sreIzy 0x34#8, .nop54 0x34#8, .eorZpx 0x34#8, .lsrZpx 0x34#8,
      .sreZpx 0x34#8, .cli, .eorAby 0x34#8 0x12#8, .nop5A, .sreAby 0x34#8 0x12#8, .nop5C 0x34#8 0x12#8,
      .eorAbx 0x34#8 0x12#8, .lsrAbx 0x34#8 0x12#8, .sreAbx 0x34#8 0x12#8] := by
  decide

theorem test_decode_opcodes_60_to_6F :
    [0x60#8, 0x61#8, 0x62#8, 0x63#8, 0x64#8, 0x65#8, 0x66#8, 0x67#8, 0x68#8, 0x69#8, 0x6A#8, 0x6B#8, 0x6C#8,
      0x6D#8, 0x6E#8, 0x6F#8].map
      (fun op => decodeOpcode op 0x34#8 0x12#8) =
    [.rts, .adcIzx 0x34#8, .kil62, .rraIzx 0x34#8, .nop64 0x34#8, .adcZp 0x34#8, .rorZp 0x34#8, .rraZp 0x34#8,
      .pla, .adcImm 0x34#8, .rorAcc, .arr 0x34#8, .jmpInd 0x34#8 0x12#8, .adcAbs 0x34#8 0x12#8,
      .rorAbs 0x34#8 0x12#8, .rraAbs 0x34#8 0x12#8] := by
  decide

theorem test_decode_opcodes_70_to_7F :
    [0x70#8, 0x71#8, 0x72#8, 0x73#8, 0x74#8, 0x75#8, 0x76#8, 0x77#8, 0x78#8, 0x79#8, 0x7A#8, 0x7B#8, 0x7C#8,
      0x7D#8, 0x7E#8, 0x7F#8].map
      (fun op => decodeOpcode op 0x34#8 0x12#8) =
    [.bvs 0x34#8, .adcIzy 0x34#8, .kil72, .rraIzy 0x34#8, .nop74 0x34#8, .adcZpx 0x34#8, .rorZpx 0x34#8,
      .rraZpx 0x34#8, .sei, .adcAby 0x34#8 0x12#8, .nop7A, .rraAby 0x34#8 0x12#8, .nop7C 0x34#8 0x12#8,
      .adcAbx 0x34#8 0x12#8, .rorAbx 0x34#8 0x12#8, .rraAbx 0x34#8 0x12#8] := by
  decide

theorem test_decode_opcodes_80_to_8F :
    [0x80#8, 0x81#8, 0x82#8, 0x83#8, 0x84#8, 0x85#8, 0x86#8, 0x87#8, 0x88#8, 0x89#8, 0x8A#8, 0x8B#8, 0x8C#8,
      0x8D#8, 0x8E#8, 0x8F#8].map
      (fun op => decodeOpcode op 0x34#8 0x12#8) =
    [.nop80 0x34#8, .staIzx 0x34#8, .nop82 0x34#8, .saxIzx 0x34#8, .styZp 0x34#8, .staZp 0x34#8,
      .stxZp 0x34#8, .saxZp 0x34#8, .dey, .nop89 0x34#8, .txa, .xaa 0x34#8, .styAbs 0x34#8 0x12#8,
      .staAbs 0x34#8 0x12#8, .stxAbs 0x34#8 0x12#8, .saxAbs 0x34#8 0x12#8] := by
  decide

theorem test_decode_opcodes_90_to_9F :
    [0x90#8, 0x91#8, 0x92#8, 0x93#8, 0x94#8, 0x95#8, 0x96#8, 0x97#8, 0x98#8, 0x99#8, 0x9A#8, 0x9B#8, 0x9C#8,
      0x9D#8, 0x9E#8, 0x9F#8].map
      (fun op => decodeOpcode op 0x34#8 0x12#8) =
    [.bcc 0x34#8, .staIzy 0x34#8, .kil92, .ahxIzy 0x34#8, .styZpx 0x34#8, .staZpx 0x34#8, .stxZpy 0x34#8,
      .saxZpy 0x34#8, .tya, .staAby 0x34#8 0x12#8, .txs, .tas 0x34#8 0x12#8, .shy 0x34#8 0x12#8,
      .staAbx 0x34#8 0x12#8, .shx 0x34#8 0x12#8, .ahxAby 0x34#8 0x12#8] := by
  decide

theorem test_decode_opcodes_A0_to_AF :
    [0xA0#8, 0xA1#8, 0xA2#8, 0xA3#8, 0xA4#8, 0xA5#8, 0xA6#8, 0xA7#8, 0xA8#8, 0xA9#8, 0xAA#8, 0xAB#8, 0xAC#8,
      0xAD#8, 0xAE#8, 0xAF#8].map
      (fun op => decodeOpcode op 0x34#8 0x12#8) =
    [.ldyImm 0x34#8, .ldaIzx 0x34#8, .ldxImm 0x34#8, .laxIzx 0x34#8, .ldyZp 0x34#8, .ldaZp 0x34#8,
      .ldxZp 0x34#8, .laxZp 0x34#8, .tay, .ldaImm 0x34#8, .tax, .laxImm 0x34#8, .ldyAbs 0x34#8 0x12#8,
      .ldaAbs 0x34#8 0x12#8, .ldxAbs 0x34#8 0x12#8, .laxAbs 0x34#8 0x12#8] := by
  decide

theorem test_decode_opcodes_B0_to_BF :
    [0xB0#8, 0xB1#8, 0xB2#8, 0xB3#8, 0xB4#8, 0xB5#8, 0xB6#8, 0xB7#8, 0xB8#8, 0xB9#8, 0xBA#8, 0xBB#8, 0xBC#8,
      0xBD#8, 0xBE#8, 0xBF#8].map
      (fun op => decodeOpcode op 0x34#8 0x12#8) =
    [.bcs 0x34#8, .ldaIzy 0x34#8, .kilB2, .laxIzy 0x34#8, .ldyZpx 0x34#8, .ldaZpx 0x34#8, .ldxZpy 0x34#8,
      .laxZpy 0x34#8, .clv, .ldaAby 0x34#8 0x12#8, .tsx, .las 0x34#8 0x12#8, .ldyAbx 0x34#8 0x12#8,
      .ldaAbx 0x34#8 0x12#8, .ldxAby 0x34#8 0x12#8, .laxAby 0x34#8 0x12#8] := by
  decide

theorem test_decode_opcodes_C0_to_CF :
    [0xC0#8, 0xC1#8, 0xC2#8, 0xC3#8, 0xC4#8, 0xC5#8, 0xC6#8, 0xC7#8, 0xC8#8, 0xC9#8, 0xCA#8, 0xCB#8, 0xCC#8,
      0xCD#8, 0xCE#8, 0xCF#8].map
      (fun op => decodeOpcode op 0x34#8 0x12#8) =
    [.cpyImm 0x34#8, .cmpIzx 0x34#8, .nopC2 0x34#8, .dcpIzx 0x34#8, .cpyZp 0x34#8, .cmpZp 0x34#8,
      .decZp 0x34#8, .dcpZp 0x34#8, .iny, .cmpImm 0x34#8, .dex, .axs 0x34#8, .cpyAbs 0x34#8 0x12#8,
      .cmpAbs 0x34#8 0x12#8, .decAbs 0x34#8 0x12#8, .dcpAbs 0x34#8 0x12#8] := by
  decide

theorem test_decode_opcodes_D0_to_DF :
    [0xD0#8, 0xD1#8, 0xD2#8, 0xD3#8, 0xD4#8, 0xD5#8, 0xD6#8, 0xD7#8, 0xD8#8, 0xD9#8, 0xDA#8, 0xDB#8, 0xDC#8,
      0xDD#8, 0xDE#8, 0xDF#8].map
      (fun op => decodeOpcode op 0x34#8 0x12#8) =
    [.bne 0x34#8, .cmpIzy 0x34#8, .kilD2, .dcpIzy 0x34#8, .nopD4 0x34#8, .cmpZpx 0x34#8, .decZpx 0x34#8,
      .dcpZpx 0x34#8, .cld, .cmpAby 0x34#8 0x12#8, .nopDA, .dcpAby 0x34#8 0x12#8, .nopDC 0x34#8 0x12#8,
      .cmpAbx 0x34#8 0x12#8, .decAbx 0x34#8 0x12#8, .dcpAbx 0x34#8 0x12#8] := by
  decide

theorem test_decode_opcodes_E0_to_EF :
    [0xE0#8, 0xE1#8, 0xE2#8, 0xE3#8, 0xE4#8, 0xE5#8, 0xE6#8, 0xE7#8, 0xE8#8, 0xE9#8, 0xEA#8, 0xEB#8, 0xEC#8,
      0xED#8, 0xEE#8, 0xEF#8].map
      (fun op => decodeOpcode op 0x34#8 0x12#8) =
    [.cpxImm 0x34#8, .sbcIzx 0x34#8, .nopE2 0x34#8, .iscIzx 0x34#8, .cpxZp 0x34#8, .sbcZp 0x34#8,
      .incZp 0x34#8, .iscZp 0x34#8, .inx, .sbcImm 0x34#8, .nop, .sbcEB 0x34#8, .cpxAbs 0x34#8 0x12#8,
      .sbcAbs 0x34#8 0x12#8, .incAbs 0x34#8 0x12#8, .iscAbs 0x34#8 0x12#8] := by
  decide

theorem test_decode_opcodes_F0_to_FF :
    [0xF0#8, 0xF1#8, 0xF2#8, 0xF3#8, 0xF4#8, 0xF5#8, 0xF6#8, 0xF7#8, 0xF8#8, 0xF9#8, 0xFA#8, 0xFB#8, 0xFC#8,
      0xFD#8, 0xFE#8, 0xFF#8].map
      (fun op => decodeOpcode op 0x34#8 0x12#8) =
    [.beq 0x34#8, .sbcIzy 0x34#8, .kilF2, .iscIzy 0x34#8, .nopF4 0x34#8, .sbcZpx 0x34#8, .incZpx 0x34#8,
      .iscZpx 0x34#8, .sed, .sbcAby 0x34#8 0x12#8, .nopFA, .iscAby 0x34#8 0x12#8, .nopFC 0x34#8 0x12#8,
      .sbcAbx 0x34#8 0x12#8, .incAbx 0x34#8 0x12#8, .iscAbx 0x34#8 0x12#8] := by
  decide

/-! ## Well-formedness: one ill-formed row for each check -/

/-- A legal row, LDA Absolute (R85). -/
def ldaRow : Row := ⟨0xAD#8, .lda, .addr .absolute, 4, .legal⟩

theorem test_row_accepted : ldaRow.wellFormed = true := by decide
-- R96: a branch accepts only a relative descriptor, a load none of Implied.
theorem test_row_refused_variant :
    Mnemonic.lda.shape.acceptsVariant .implied = false ∧
    Row.wellFormed { ldaRow with mode := .implied } = false := by
  decide
-- R213: a store has no Immediate form.
theorem test_row_refused_immediate_store :
    Row.writesNoImmediate ⟨0x89#8, .sta, .addr .immediate, 2, .legal⟩ = false ∧
    Row.wellFormed ⟨0x89#8, .sta, .addr .immediate, 2, .legal⟩ = false := by
  decide
-- R107: Indirect is used only by JMP.
theorem test_row_refused_indirect_load :
    Row.indirectOnlyJmp { ldaRow with mode := .addr .indirect } = false ∧
    Row.wellFormed { ldaRow with mode := .addr .indirect } = false := by
  decide
-- R94: base costs are 2 to 8.
theorem test_row_refused_cost :
    Row.costInRange { ldaRow with base := 9 } = false ∧ Row.wellFormed { ldaRow with base := 1 } = false := by
  decide
-- R90: KIL is an illegal name; 0xEA is the only legal NOP; 0xEB is the illegal SBC.
theorem test_row_refused_class :
    Row.wellFormed ⟨0x02#8, .kil, .implied, 2, .legal⟩ = false ∧
    Row.wellFormed ⟨0x1A#8, .nop, .implied, 2, .legal⟩ = false ∧
    Row.wellFormed ⟨0xEB#8, .sbc, .addr .immediate, 2, .legal⟩ = false ∧
    Row.wellFormed { ldaRow with cls := .illegal } = false := by
  decide

/-! ## One step of each instruction -/

/-! ### Loads and the resolvers (sections 2.1 and 2.10) -/

-- S1b
theorem test_s1b : seen [0x0200]
    { boot plain 0x0000#16 [0x6D#8, 0x00#8, 0x02#8] [(0x0200, 0x10#8)] with a := 0x09#8, p := 0x25#8 } =
      some ([0x1A#8, 0x00#8, 0x00#8, 0xFD#8, 0x24#8], 0x0003#16, 4, [0x10#8]) := by
  decide

-- S2b
theorem test_s2b : seen [0x1100]
    { boot plain 0x0400#16 [0xBD#8, 0x01#8, 0x10#8] [(0x1100, 0x77#8)] with x := 0xFF#8 } =
      some ([0x77#8, 0xFF#8, 0x00#8, 0xFD#8, 0x24#8], 0x0403#16, 5, [0x77#8]) := by
  decide

-- AM-abs
theorem test_am_abs : seen [0x1234]
    (boot plain 0x0400#16 [0xAD#8, 0x34#8, 0x12#8] [(0x1234, 0x5A#8)]) =
      some ([0x5A#8, 0x00#8, 0x00#8, 0xFD#8, 0x24#8], 0x0403#16, 4, [0x5A#8]) := by
  decide

-- AM-abs-wrap
theorem test_am_abs_wrap : seen [0x0000]
    (boot plain 0xFFFE#16 [0xAD#8, 0x34#8] [(0x0000, 0x12#8), (0x1234, 0x5A#8)]) =
      some ([0x5A#8, 0x00#8, 0x00#8, 0xFD#8, 0x24#8], 0x0001#16, 4, [0x12#8]) := by
  decide

-- AM-abx-wrap64k
theorem test_am_abx_wrap64k : seen [0x0000]
    { boot plain 0x0400#16 [0xBD#8, 0xFF#8, 0xFF#8] [(0x0000, 0x5A#8)] with x := 0x01#8 } =
      some ([0x5A#8, 0x01#8, 0x00#8, 0xFD#8, 0x24#8], 0x0403#16, 5, [0x5A#8]) := by
  decide

-- AM-aby-cross
theorem test_am_aby_cross : seen [0x2110]
    { boot plain 0x0400#16 [0xB9#8, 0xF0#8, 0x20#8] [(0x2110, 0x5A#8)] with y := 0x20#8 } =
      some ([0x5A#8, 0x00#8, 0x20#8, 0xFD#8, 0x24#8], 0x0403#16, 5, [0x5A#8]) := by
  decide

-- AM-aby-same
theorem test_am_aby_same : seen [0x20FF]
    { boot plain 0x0400#16 [0xB9#8, 0xF0#8, 0x20#8] [(0x20FF, 0x5A#8)] with y := 0x0F#8 } =
      some ([0x5A#8, 0x00#8, 0x0F#8, 0xFD#8, 0x24#8], 0x0403#16, 4, [0x5A#8]) := by
  decide

-- AM-abxc-same
theorem test_am_abxc_same : seen [0x1001]
    { boot plain 0x0400#16 [0x9D#8, 0x00#8, 0x10#8] [] with a := 0x5A#8, x := 0x01#8 } =
      some ([0x5A#8, 0x01#8, 0x00#8, 0xFD#8, 0x24#8], 0x0403#16, 5, [0x5A#8]) := by
  decide

-- AM-abyc-store
theorem test_am_abyc_store : seen [0x2110]
    { boot plain 0x0400#16 [0x99#8, 0xF0#8, 0x20#8] [] with a := 0x5A#8, y := 0x20#8 } =
      some ([0x5A#8, 0x00#8, 0x20#8, 0xFD#8, 0x24#8], 0x0403#16, 5, [0x5A#8]) := by
  decide

-- AM-imm
theorem test_am_imm : seen []
    (boot plain 0x0400#16 [0xA9#8, 0x10#8] []) =
      some ([0x10#8, 0x00#8, 0x00#8, 0xFD#8, 0x24#8], 0x0402#16, 2, []) := by
  decide

-- AM-ind-bug
theorem test_am_ind_bug : seen [0x0200]
    (boot plain 0x0400#16 [0x6C#8, 0xFF#8, 0x02#8] [(0x0200, 0x12#8), (0x02FF, 0x34#8), (0x0300, 0x56#8)]) =
      some ([0x00#8, 0x00#8, 0x00#8, 0xFD#8, 0x24#8], 0x1234#16, 5, [0x12#8]) := by
  decide

-- AM-izx-wrap-index
theorem test_am_izx_wrap_index : seen [0x0001]
    { boot plain 0x0400#16 [0xA1#8, 0xFE#8] [(0x0001, 0x74#8), (0x0002, 0x20#8), (0x2074, 0x5A#8)] with
      x := 0x03#8 } =
      some ([0x5A#8, 0x03#8, 0x00#8, 0xFD#8, 0x24#8], 0x0402#16, 6, [0x74#8]) := by
  decide

-- AM-izx-wrap-ptr
theorem test_am_izx_wrap_ptr : seen [0x0000]
    { boot plain 0x0400#16 [0xA1#8, 0xFF#8] [(0x0000, 0x20#8), (0x00FF, 0x74#8), (0x0100, 0x99#8), (0x2074, 0x5A#8)] with
      x := 0x00#8 } =
      some ([0x5A#8, 0x00#8, 0x00#8, 0xFD#8, 0x24#8], 0x0402#16, 6, [0x20#8]) := by
  decide

-- AM-izy-cross
theorem test_am_izy_cross : seen [0x0086]
    { boot plain 0x0400#16 [0xB1#8, 0x86#8] [(0x0086, 0xF8#8), (0x0087, 0x40#8), (0x4108, 0x5A#8)] with
      y := 0x10#8 } =
      some ([0x5A#8, 0x00#8, 0x10#8, 0xFD#8, 0x24#8], 0x0402#16, 6, [0xF8#8]) := by
  decide

-- AM-izy-wrap-ptr
theorem test_am_izy_wrap_ptr : seen [0x0000]
    { boot plain 0x0400#16 [0xB1#8, 0xFF#8] [(0x0000, 0x30#8), (0x00FF, 0x00#8), (0x0100, 0x99#8), (0x3001, 0x5A#8)] with
      y := 0x01#8 } =
      some ([0x5A#8, 0x00#8, 0x01#8, 0xFD#8, 0x24#8], 0x0402#16, 5, [0x30#8]) := by
  decide

-- AM-izyc-store
theorem test_am_izyc_store : seen [0x4108]
    { boot plain 0x0400#16 [0x91#8, 0x86#8] [(0x0086, 0xF8#8), (0x0087, 0x40#8)] with
      a := 0x5A#8, y := 0x10#8 } =
      some ([0x5A#8, 0x00#8, 0x10#8, 0xFD#8, 0x24#8], 0x0402#16, 6, [0x5A#8]) := by
  decide

-- AM-zp
theorem test_am_zp : seen [0x0010]
    (boot plain 0x0400#16 [0xA5#8, 0x10#8] [(0x0010, 0x5A#8)]) =
      some ([0x5A#8, 0x00#8, 0x00#8, 0xFD#8, 0x24#8], 0x0402#16, 3, [0x5A#8]) := by
  decide

-- AM-zpx-wrap
theorem test_am_zpx_wrap : seen [0x0001]
    { boot plain 0x0400#16 [0xB5#8, 0xFF#8] [(0x0001, 0x5A#8), (0x0101, 0x99#8)] with x := 0x02#8 } =
      some ([0x5A#8, 0x02#8, 0x00#8, 0xFD#8, 0x24#8], 0x0402#16, 4, [0x5A#8]) := by
  decide

-- AM-zpy
theorem test_am_zpy : seen [0x0010]
    { boot plain 0x0400#16 [0xB6#8, 0xF0#8] [(0x0010, 0x5A#8), (0x0110, 0x99#8)] with y := 0x20#8 } =
      some ([0x00#8, 0x5A#8, 0x20#8, 0xFD#8, 0x24#8], 0x0402#16, 4, [0x5A#8]) := by
  decide

-- LDX-imm
theorem test_ldx_imm : seen []
    (boot plain 0x0400#16 [0xA2#8, 0xFF#8] []) =
      some ([0x00#8, 0xFF#8, 0x00#8, 0xFD#8, 0xA4#8], 0x0402#16, 2, []) := by
  decide

-- LDX-aby-cross
theorem test_ldx_aby_cross : seen [0x2100]
    { boot plain 0x0400#16 [0xBE#8, 0xFF#8, 0x20#8] [(0x2100, 0x01#8)] with y := 0x01#8 } =
      some ([0x00#8, 0x01#8, 0x01#8, 0xFD#8, 0x24#8], 0x0403#16, 5, [0x01#8]) := by
  decide

-- LDY-zp
theorem test_ldy_zp : seen [0x0010]
    (boot plain 0x0400#16 [0xA4#8, 0x10#8] [(0x0010, 0x7F#8)]) =
      some ([0x00#8, 0x00#8, 0x7F#8, 0xFD#8, 0x24#8], 0x0402#16, 3, [0x7F#8]) := by
  decide

-- LDY-abx-same
theorem test_ldy_abx_same : seen [0x20FF]
    { boot plain 0x0400#16 [0xBC#8, 0x00#8, 0x20#8] [(0x20FF, 0x00#8)] with x := 0xFF#8 } =
      some ([0x00#8, 0xFF#8, 0x00#8, 0xFD#8, 0x26#8], 0x0403#16, 4, [0x00#8]) := by
  decide

-- STA-abs
theorem test_sta_abs : seen [0x0200]
    { boot plain 0x0400#16 [0x8D#8, 0x00#8, 0x02#8] [] with a := 0x42#8 } =
      some ([0x42#8, 0x00#8, 0x00#8, 0xFD#8, 0x24#8], 0x0403#16, 4, [0x42#8]) := by
  decide

-- STA-izx
theorem test_sta_izx : seen [0x2074]
    { boot plain 0x0400#16 [0x81#8, 0x20#8] [(0x0024, 0x74#8), (0x0025, 0x20#8)] with
      a := 0x42#8, x := 0x04#8 } =
      some ([0x42#8, 0x04#8, 0x00#8, 0xFD#8, 0x24#8], 0x0402#16, 6, [0x42#8]) := by
  decide

-- STX-zpy-wrap
theorem test_stx_zpy_wrap : seen [0x0008]
    { boot plain 0x0400#16 [0x96#8, 0x10#8] [] with x := 0x07#8, y := 0xF8#8 } =
      some ([0x00#8, 0x07#8, 0xF8#8, 0xFD#8, 0x24#8], 0x0402#16, 4, [0x07#8]) := by
  decide

-- STY-zp
theorem test_sty_zp : seen [0x0020]
    { boot plain 0x0400#16 [0x84#8, 0x20#8] [] with y := 0x99#8 } =
      some ([0x00#8, 0x00#8, 0x99#8, 0xFD#8, 0x24#8], 0x0402#16, 3, [0x99#8]) := by
  decide

-- STY-zpx
theorem test_sty_zpx : seen [0x0010]
    { boot plain 0x0400#16 [0x94#8, 0x20#8] [] with y := 0x99#8, x := 0xF0#8 } =
      some ([0x00#8, 0xF0#8, 0x99#8, 0xFD#8, 0x24#8], 0x0402#16, 4, [0x99#8]) := by
  decide

-- INC-wrap
theorem test_inc_wrap : seen [0x0010]
    (boot plain 0x0400#16 [0xE6#8, 0x10#8] [(0x0010, 0xFF#8)]) =
      some ([0x00#8, 0x00#8, 0x00#8, 0xFD#8, 0x26#8], 0x0402#16, 5, [0x00#8]) := by
  decide

-- INC-neg
theorem test_inc_neg : seen [0x2000]
    (boot plain 0x0400#16 [0xEE#8, 0x00#8, 0x20#8] [(0x2000, 0x7F#8)]) =
      some ([0x00#8, 0x00#8, 0x00#8, 0xFD#8, 0xA4#8], 0x0403#16, 6, [0x80#8]) := by
  decide

-- DEC-zero
theorem test_dec_zero : seen [0x0010]
    (boot plain 0x0400#16 [0xC6#8, 0x10#8] [(0x0010, 0x01#8)]) =
      some ([0x00#8, 0x00#8, 0x00#8, 0xFD#8, 0x26#8], 0x0402#16, 5, [0x00#8]) := by
  decide

-- DEC-wrap
theorem test_dec_wrap : seen [0x0011]
    { boot plain 0x0400#16 [0xD6#8, 0x10#8] [(0x0011, 0x00#8)] with x := 0x01#8 } =
      some ([0x00#8, 0x01#8, 0x00#8, 0xFD#8, 0xA4#8], 0x0402#16, 6, [0xFF#8]) := by
  decide

-- DEC-abx
theorem test_dec_abx : seen [0x1300]
    { boot plain 0x0400#16 [0xDE#8, 0xFF#8, 0x12#8] [(0x1300, 0x80#8)] with x := 0x01#8 } =
      some ([0x00#8, 0x01#8, 0x00#8, 0xFD#8, 0x24#8], 0x0403#16, 7, [0x7F#8]) := by
  decide

-- INX-wrap
theorem test_inx_wrap : seen []
    { boot plain 0x0400#16 [0xE8#8] [] with x := 0xFF#8 } =
      some ([0x00#8, 0x00#8, 0x00#8, 0xFD#8, 0x26#8], 0x0401#16, 2, []) := by
  decide

-- INY
theorem test_iny : seen []
    { boot plain 0x0400#16 [0xC8#8] [] with y := 0x00#8, p := 0x26#8 } =
      some ([0x00#8, 0x00#8, 0x01#8, 0xFD#8, 0x24#8], 0x0401#16, 2, []) := by
  decide

-- DEX
theorem test_dex : seen []
    { boot plain 0x0400#16 [0xCA#8] [] with x := 0x01#8 } =
      some ([0x00#8, 0x00#8, 0x00#8, 0xFD#8, 0x26#8], 0x0401#16, 2, []) := by
  decide

-- DEY-wrap
theorem test_dey_wrap : seen []
    { boot plain 0x0400#16 [0x88#8] [] with y := 0x00#8 } =
      some ([0x00#8, 0x00#8, 0xFF#8, 0xFD#8, 0xA4#8], 0x0401#16, 2, []) := by
  decide

/-! ### Arithmetic (sections 1 to 2.3) -/

-- S1c
theorem test_s1c : seen [0x0080]
    { boot plain 0x0000#16 [0x65#8, 0x80#8] [(0x0080, 0x10#8)] with a := 0x09#8, p := 0x25#8 } =
      some ([0x1A#8, 0x00#8, 0x00#8, 0xFD#8, 0x24#8], 0x0002#16, 3, [0x10#8]) := by
  decide

-- SBC-abs,x
theorem test_sbc_abs_x : seen [0x2110]
    { boot plain 0x0400#16 [0xFD#8, 0xF0#8, 0x20#8] [(0x2110, 0x01#8)] with
      a := 0x40#8, x := 0x20#8, p := 0x25#8 } =
      some ([0x3F#8, 0x20#8, 0x00#8, 0xFD#8, 0x25#8], 0x0403#16, 5, [0x01#8]) := by
  decide

-- ADC-4
theorem test_adc_4 : seen []
    { boot plain 0x0400#16 [0x69#8, 0x01#8] [] with a := 0x7F#8, p := 0x24#8 } =
      some ([0x80#8, 0x00#8, 0x00#8, 0xFD#8, 0xE4#8], 0x0402#16, 2, []) := by
  decide

-- DADC-4
theorem test_dadc_4 : seen []
    { boot bcd 0x0400#16 [0x69#8, 0x46#8] [] with a := 0x58#8, p := 0x2D#8 } =
      some ([0x05#8, 0x00#8, 0x00#8, 0xFD#8, 0x2D#8], 0x0402#16, 2, []) := by
  decide

-- SBC-3
theorem test_sbc_3 : seen []
    { boot plain 0x0400#16 [0xE9#8, 0xB0#8] [] with a := 0x50#8, p := 0x25#8 } =
      some ([0xA0#8, 0x00#8, 0x00#8, 0xFD#8, 0xE4#8], 0x0402#16, 2, []) := by
  decide

-- DSBC-2
theorem test_dsbc_2 : seen []
    { boot bcd 0x0400#16 [0xE9#8, 0x01#8] [] with a := 0x00#8, p := 0x2D#8 } =
      some ([0x99#8, 0x00#8, 0x00#8, 0xFD#8, 0xAC#8], 0x0402#16, 2, []) := by
  decide

/-! ### Logical, shift and rotate (sections 2.4 and 2.5) -/

-- AND-3
theorem test_and_3 : seen [0x0011]
    { boot plain 0x0400#16 [0x35#8, 0x10#8] [(0x0011, 0x80#8)] with a := 0xFF#8, x := 0x01#8 } =
      some ([0x80#8, 0x01#8, 0x00#8, 0xFD#8, 0xA4#8], 0x0402#16, 4, [0x80#8]) := by
  decide

-- ORA-3
theorem test_ora_3 : seen [0x0040]
    { boot plain 0x0400#16 [0x11#8, 0x40#8] [(0x0040, 0xFF#8), (0x0041, 0x12#8), (0x1300, 0x30#8)] with
      a := 0x0F#8, y := 0x01#8 } =
      some ([0x3F#8, 0x00#8, 0x01#8, 0xFD#8, 0x24#8], 0x0402#16, 6, [0xFF#8]) := by
  decide

-- EOR-3
theorem test_eor_3 : seen [0x2005]
    { boot plain 0x0400#16 [0x5D#8, 0x00#8, 0x20#8] [(0x2005, 0x03#8)] with a := 0x01#8, x := 0x05#8 } =
      some ([0x02#8, 0x05#8, 0x00#8, 0xFD#8, 0x24#8], 0x0403#16, 4, [0x03#8]) := by
  decide

-- BIT-2
theorem test_bit_2 : seen [0x0010]
    { boot plain 0x0400#16 [0x24#8, 0x10#8] [(0x0010, 0xC0#8)] with a := 0x01#8 } =
      some ([0x01#8, 0x00#8, 0x00#8, 0xFD#8, 0xE6#8], 0x0402#16, 3, [0xC0#8]) := by
  decide

-- BIT-3
theorem test_bit_3 : seen [0x2000]
    { boot plain 0x0400#16 [0x2C#8, 0x00#8, 0x20#8] [(0x2000, 0x3F#8)] with a := 0xFF#8, p := 0xE4#8 } =
      some ([0xFF#8, 0x00#8, 0x00#8, 0xFD#8, 0x24#8], 0x0403#16, 4, [0x3F#8]) := by
  decide

-- ASL-A
theorem test_asl_a : seen []
    { boot plain 0x0400#16 [0x0A#8] [] with a := 0x81#8 } =
      some ([0x02#8, 0x00#8, 0x00#8, 0xFD#8, 0x25#8], 0x0401#16, 2, []) := by
  decide

-- ASL-abx
theorem test_asl_abx : seen [0x1300]
    { boot plain 0x0400#16 [0x1E#8, 0xFF#8, 0x12#8] [(0x1300, 0x01#8)] with x := 0x01#8 } =
      some ([0x00#8, 0x01#8, 0x00#8, 0xFD#8, 0x24#8], 0x0403#16, 7, [0x02#8]) := by
  decide

-- LSR-A
theorem test_lsr_a : seen []
    { boot plain 0x0400#16 [0x4A#8] [] with a := 0x01#8 } =
      some ([0x00#8, 0x00#8, 0x00#8, 0xFD#8, 0x27#8], 0x0401#16, 2, []) := by
  decide

-- LSR-zp
theorem test_lsr_zp : seen [0x0010]
    (boot plain 0x0400#16 [0x46#8, 0x10#8] [(0x0010, 0x06#8)]) =
      some ([0x00#8, 0x00#8, 0x00#8, 0xFD#8, 0x24#8], 0x0402#16, 5, [0x03#8]) := by
  decide

-- ROL-A
theorem test_rol_a : seen []
    { boot plain 0x0400#16 [0x2A#8] [] with a := 0x40#8, p := 0x25#8 } =
      some ([0x81#8, 0x00#8, 0x00#8, 0xFD#8, 0xA4#8], 0x0401#16, 2, []) := by
  decide

-- ROL-abs
theorem test_rol_abs : seen [0x2000]
    { boot plain 0x0400#16 [0x2E#8, 0x00#8, 0x20#8] [(0x2000, 0xFF#8)] with p := 0x25#8 } =
      some ([0x00#8, 0x00#8, 0x00#8, 0xFD#8, 0xA5#8], 0x0403#16, 6, [0xFF#8]) := by
  decide

-- ROR-A
theorem test_ror_a : seen []
    { boot plain 0x0400#16 [0x6A#8] [] with a := 0x03#8, p := 0x25#8 } =
      some ([0x81#8, 0x00#8, 0x00#8, 0xFD#8, 0xA5#8], 0x0401#16, 2, []) := by
  decide

-- ROR-zpx
theorem test_ror_zpx : seen [0x0000]
    { boot plain 0x0400#16 [0x76#8, 0xFF#8] [(0x0000, 0x00#8)] with x := 0x01#8, p := 0x25#8 } =
      some ([0x00#8, 0x01#8, 0x00#8, 0xFD#8, 0xA4#8], 0x0402#16, 6, [0x80#8]) := by
  decide

/-! ### Branch and compare (sections 2.6 and 2.7) -/

-- BCC-taken
theorem test_bcc_taken : seen []
    { boot plain 0x0400#16 [0x90#8, 0x04#8] [] with p := 0x24#8 } =
      some ([0x00#8, 0x00#8, 0x00#8, 0xFD#8, 0x24#8], 0x0406#16, 3, []) := by
  decide

-- BCC-wrap-64k
theorem test_bcc_wrap_64k : seen []
    { boot plain 0xFFF0#16 [0x90#8, 0x10#8] [] with p := 0x24#8 } =
      some ([0x00#8, 0x00#8, 0x00#8, 0xFD#8, 0x24#8], 0x0002#16, 4, []) := by
  decide

-- BCS-self
theorem test_bcs_self : seen []
    { boot plain 0x0400#16 [0xB0#8, 0xFE#8] [] with p := 0x25#8 } =
      some ([0x00#8, 0x00#8, 0x00#8, 0xFD#8, 0x25#8], 0x0400#16, 3, []) := by
  decide

-- BEQ-cross-fwd
theorem test_beq_cross_fwd : seen []
    { boot plain 0x04F0#16 [0xF0#8, 0x10#8] [] with p := 0x26#8 } =
      some ([0x00#8, 0x00#8, 0x00#8, 0xFD#8, 0x26#8], 0x0502#16, 4, []) := by
  decide

-- BEQ-next-page-base
theorem test_beq_next_page_base : seen []
    { boot plain 0x04FE#16 [0xF0#8, 0x00#8] [] with p := 0x26#8 } =
      some ([0x00#8, 0x00#8, 0x00#8, 0xFD#8, 0x26#8], 0x0500#16, 3, []) := by
  decide

-- BNE-back
theorem test_bne_back : seen []
    { boot plain 0x0406#16 [0xD0#8, 0xFC#8] [] with p := 0x24#8 } =
      some ([0x00#8, 0x00#8, 0x00#8, 0xFD#8, 0x24#8], 0x0404#16, 3, []) := by
  decide

-- BNE-not
theorem test_bne_not : seen []
    { boot plain 0x0406#16 [0xD0#8, 0xFC#8] [] with p := 0x26#8 } =
      some ([0x00#8, 0x00#8, 0x00#8, 0xFD#8, 0x26#8], 0x0408#16, 2, []) := by
  decide

-- BMI-max-fwd
theorem test_bmi_max_fwd : seen []
    { boot plain 0x0400#16 [0x30#8, 0x7F#8] [] with p := 0xA4#8 } =
      some ([0x00#8, 0x00#8, 0x00#8, 0xFD#8, 0xA4#8], 0x0481#16, 3, []) := by
  decide

-- BPL-max-back
theorem test_bpl_max_back : seen []
    { boot plain 0x0400#16 [0x10#8, 0x80#8] [] with p := 0x24#8 } =
      some ([0x00#8, 0x00#8, 0x00#8, 0xFD#8, 0x24#8], 0x0382#16, 4, []) := by
  decide

-- BVC-not
theorem test_bvc_not : seen []
    { boot plain 0x0400#16 [0x50#8, 0x02#8] [] with p := 0x64#8 } =
      some ([0x00#8, 0x00#8, 0x00#8, 0xFD#8, 0x64#8], 0x0402#16, 2, []) := by
  decide

-- BVS-taken
theorem test_bvs_taken : seen []
    { boot plain 0x0400#16 [0x70#8, 0x02#8] [] with p := 0x64#8 } =
      some ([0x00#8, 0x00#8, 0x00#8, 0xFD#8, 0x64#8], 0x0404#16, 3, []) := by
  decide

-- CMP-lt
theorem test_cmp_lt : seen []
    { boot plain 0x0400#16 [0xC9#8, 0x21#8] [] with a := 0x20#8 } =
      some ([0x20#8, 0x00#8, 0x00#8, 0xFD#8, 0xA4#8], 0x0402#16, 2, []) := by
  decide

-- CMP-80-7F
theorem test_cmp_80_7f : seen []
    { boot plain 0x0400#16 [0xC9#8, 0x7F#8] [] with a := 0x80#8, p := 0x64#8 } =
      some ([0x80#8, 0x00#8, 0x00#8, 0xFD#8, 0x65#8], 0x0402#16, 2, []) := by
  decide

-- CMP-izy
theorem test_cmp_izy : seen [0x0040]
    { boot plain 0x0400#16 [0xD1#8, 0x40#8] [(0x0040, 0xFF#8), (0x0041, 0x12#8), (0x1300, 0x30#8)] with
      a := 0x30#8, y := 0x01#8 } =
      some ([0x30#8, 0x00#8, 0x01#8, 0xFD#8, 0x27#8], 0x0402#16, 6, [0xFF#8]) := by
  decide

-- CPX-eq
theorem test_cpx_eq : seen []
    { boot plain 0x0400#16 [0xE0#8, 0x05#8] [] with x := 0x05#8 } =
      some ([0x00#8, 0x05#8, 0x00#8, 0xFD#8, 0x27#8], 0x0402#16, 2, []) := by
  decide

-- CPX-zp
theorem test_cpx_zp : seen [0x0010]
    { boot plain 0x0400#16 [0xE4#8, 0x10#8] [(0x0010, 0x01#8)] with x := 0x00#8 } =
      some ([0x00#8, 0x00#8, 0x00#8, 0xFD#8, 0xA4#8], 0x0402#16, 3, [0x01#8]) := by
  decide

-- CPY-lt
theorem test_cpy_lt : seen []
    { boot plain 0x0400#16 [0xC0#8, 0x10#8] [] with y := 0x0F#8 } =
      some ([0x00#8, 0x00#8, 0x0F#8, 0xFD#8, 0xA4#8], 0x0402#16, 2, []) := by
  decide

-- CPY-abs
theorem test_cpy_abs : seen [0x2000]
    { boot plain 0x0400#16 [0xCC#8, 0x00#8, 0x20#8] [(0x2000, 0x7F#8)] with y := 0xFF#8 } =
      some ([0x00#8, 0x00#8, 0xFF#8, 0xFD#8, 0xA5#8], 0x0403#16, 4, [0x7F#8]) := by
  decide

/-! ### Stack, jumps, BRK and RTI (section 2.8) -/

-- PHA-wrap
theorem test_pha_wrap : seen [0x0100]
    { boot plain 0x0400#16 [0x48#8] [] with a := 0x42#8, sp := 0x00#8 } =
      some ([0x42#8, 0x00#8, 0x00#8, 0xFF#8, 0x24#8], 0x0401#16, 3, [0x42#8]) := by
  decide

-- PHP-24
theorem test_php_24 : seen [0x01FD]
    { boot plain 0x0400#16 [0x08#8] [] with p := 0x24#8 } =
      some ([0x00#8, 0x00#8, 0x00#8, 0xFC#8, 0x24#8], 0x0401#16, 3, [0x34#8]) := by
  decide

-- PLA-zero
theorem test_pla_zero : seen [0x01FD]
    { boot plain 0x0400#16 [0x68#8] [(0x01FD, 0x00#8)] with a := 0x55#8, sp := 0xFC#8 } =
      some ([0x00#8, 0x00#8, 0x00#8, 0xFD#8, 0x26#8], 0x0401#16, 4, [0x00#8]) := by
  decide

-- PLA-wrap
theorem test_pla_wrap : seen [0x0100]
    { boot plain 0x0400#16 [0x68#8] [(0x0100, 0x7F#8)] with sp := 0xFF#8 } =
      some ([0x7F#8, 0x00#8, 0x00#8, 0x00#8, 0x24#8], 0x0401#16, 4, [0x7F#8]) := by
  decide

-- PLP-FF
theorem test_plp_ff : seen [0x01FD]
    { boot plain 0x0400#16 [0x28#8] [(0x01FD, 0xFF#8)] with sp := 0xFC#8, p := 0x24#8 } =
      some ([0x00#8, 0x00#8, 0x00#8, 0xFD#8, 0xEF#8], 0x0401#16, 4, [0xFF#8]) := by
  decide

-- PLP-00
theorem test_plp_00 : seen [0x01FD]
    { boot plain 0x0400#16 [0x28#8] [(0x01FD, 0x00#8)] with sp := 0xFC#8, p := 0x34#8 } =
      some ([0x00#8, 0x00#8, 0x00#8, 0xFD#8, 0x30#8], 0x0401#16, 4, [0x00#8]) := by
  decide

-- JSR
theorem test_jsr : seen [0x01FC, 0x01FD]
    (boot plain 0x0400#16 [0x20#8, 0x00#8, 0x06#8] []) =
      some ([0x00#8, 0x00#8, 0x00#8, 0xFB#8, 0x24#8], 0x0600#16, 6, [0x02#8, 0x04#8]) := by
  decide

-- JSR-wrap
theorem test_jsr_wrap : seen [0x0100, 0x01FF]
    { boot plain 0x0400#16 [0x20#8, 0x00#8, 0x06#8] [] with sp := 0x00#8 } =
      some ([0x00#8, 0x00#8, 0x00#8, 0xFE#8, 0x24#8], 0x0600#16, 6, [0x04#8, 0x02#8]) := by
  decide

-- RTS
theorem test_rts : seen [0x01FC]
    { boot plain 0x0400#16 [0x60#8] [(0x01FC, 0x02#8), (0x01FD, 0x04#8)] with sp := 0xFB#8 } =
      some ([0x00#8, 0x00#8, 0x00#8, 0xFD#8, 0x24#8], 0x0403#16, 6, [0x02#8]) := by
  decide

-- RTS-FFFF
theorem test_rts_ffff : seen [0x01FC]
    { boot plain 0x0400#16 [0x60#8] [(0x01FC, 0xFF#8), (0x01FD, 0xFF#8)] with sp := 0xFB#8 } =
      some ([0x00#8, 0x00#8, 0x00#8, 0xFD#8, 0x24#8], 0x0000#16, 6, [0xFF#8]) := by
  decide

-- JMP-abs
theorem test_jmp_abs : seen []
    (boot plain 0x0400#16 [0x4C#8, 0x00#8, 0x06#8] []) =
      some ([0x00#8, 0x00#8, 0x00#8, 0xFD#8, 0x24#8], 0x0600#16, 3, []) := by
  decide

-- BRK-22
theorem test_brk_22 : seen [0x01FB, 0x01FC, 0x01FD]
    { boot plain 0x0408#16 [0x00#8] [(0xFFFE, 0x00#8), (0xFFFF, 0x05#8)] with p := 0x22#8 } =
      some ([0x00#8, 0x00#8, 0x00#8, 0xFA#8, 0x36#8], 0x0500#16, 7, [0x32#8, 0x0A#8, 0x04#8]) := by
  decide

-- BRK-at-FFFF
theorem test_brk_at_ffff : seen [0x01FB, 0x01FC]
    { boot plain 0xFFFF#16 [0x00#8] [(0xFFFE, 0x00#8)] with p := 0x20#8 } =
      some ([0x00#8, 0x00#8, 0x00#8, 0xFA#8, 0x34#8], 0x0000#16, 7, [0x30#8, 0x01#8]) := by
  decide

-- RTI
theorem test_rti : seen [0x01FB]
    { boot plain 0x0400#16 [0x40#8] [(0x01FB, 0x36#8), (0x01FC, 0x0A#8), (0x01FD, 0x04#8)] with
      sp := 0xFA#8, p := 0x36#8 } =
      some ([0x00#8, 0x00#8, 0x00#8, 0xFD#8, 0x36#8], 0x040A#16, 6, [0x36#8]) := by
  decide

-- RTI-breakbits
theorem test_rti_breakbits : seen [0x01FB]
    { boot plain 0x0400#16 [0x40#8] [(0x01FB, 0xD3#8), (0x01FC, 0x0A#8), (0x01FD, 0x04#8)] with
      sp := 0xFA#8, p := 0x24#8 } =
      some ([0x00#8, 0x00#8, 0x00#8, 0xFD#8, 0xE3#8], 0x040A#16, 6, [0xD3#8]) := by
  decide

/-! ### Transfers and flags (section 2.9) -/

-- TAX
theorem test_tax : seen []
    { boot plain 0x0400#16 [0xAA#8] [] with a := 0x80#8 } =
      some ([0x80#8, 0x80#8, 0x00#8, 0xFD#8, 0xA4#8], 0x0401#16, 2, []) := by
  decide

-- TAY
theorem test_tay : seen []
    { boot plain 0x0400#16 [0xA8#8] [] with a := 0x00#8, y := 0x01#8 } =
      some ([0x00#8, 0x00#8, 0x00#8, 0xFD#8, 0x26#8], 0x0401#16, 2, []) := by
  decide

-- TXA
theorem test_txa : seen []
    { boot plain 0x0400#16 [0x8A#8] [] with x := 0x7F#8, p := 0xA6#8 } =
      some ([0x7F#8, 0x7F#8, 0x00#8, 0xFD#8, 0x24#8], 0x0401#16, 2, []) := by
  decide

-- TYA
theorem test_tya : seen []
    { boot plain 0x0400#16 [0x98#8] [] with y := 0xFF#8 } =
      some ([0xFF#8, 0x00#8, 0xFF#8, 0xFD#8, 0xA4#8], 0x0401#16, 2, []) := by
  decide

-- TSX
theorem test_tsx : seen []
    (boot plain 0x0400#16 [0xBA#8] []) =
      some ([0x00#8, 0xFD#8, 0x00#8, 0xFD#8, 0xA4#8], 0x0401#16, 2, []) := by
  decide

-- TXS
theorem test_txs : seen []
    { boot plain 0x0400#16 [0x9A#8] [] with x := 0xFF#8 } =
      some ([0x00#8, 0xFF#8, 0x00#8, 0xFF#8, 0x24#8], 0x0401#16, 2, []) := by
  decide

-- CLC
theorem test_clc : seen []
    { boot plain 0x0400#16 [0x18#8] [] with p := 0x25#8 } =
      some ([0x00#8, 0x00#8, 0x00#8, 0xFD#8, 0x24#8], 0x0401#16, 2, []) := by
  decide

-- CLD
theorem test_cld : seen []
    { boot plain 0x0400#16 [0xD8#8] [] with p := 0x2C#8 } =
      some ([0x00#8, 0x00#8, 0x00#8, 0xFD#8, 0x24#8], 0x0401#16, 2, []) := by
  decide

-- CLI
theorem test_cli : seen []
    { boot plain 0x0400#16 [0x58#8] [] with p := 0x24#8 } =
      some ([0x00#8, 0x00#8, 0x00#8, 0xFD#8, 0x20#8], 0x0401#16, 2, []) := by
  decide

-- CLV
theorem test_clv : seen []
    { boot plain 0x0400#16 [0xB8#8] [] with p := 0x64#8 } =
      some ([0x00#8, 0x00#8, 0x00#8, 0xFD#8, 0x24#8], 0x0401#16, 2, []) := by
  decide

-- SEC
theorem test_sec : seen []
    { boot plain 0x0400#16 [0x38#8] [] with p := 0x24#8 } =
      some ([0x00#8, 0x00#8, 0x00#8, 0xFD#8, 0x25#8], 0x0401#16, 2, []) := by
  decide

-- SED
theorem test_sed : seen []
    { boot plain 0x0400#16 [0xF8#8] [] with p := 0x24#8 } =
      some ([0x00#8, 0x00#8, 0x00#8, 0xFD#8, 0x2C#8], 0x0401#16, 2, []) := by
  decide

-- SEI
theorem test_sei : seen []
    { boot plain 0x0400#16 [0x78#8] [] with p := 0x20#8 } =
      some ([0x00#8, 0x00#8, 0x00#8, 0xFD#8, 0x24#8], 0x0401#16, 2, []) := by
  decide

/-! ### Illegal opcodes and NOP (section 3) -/

-- NOP
theorem test_nop : seen []
    { boot plain 0x0400#16 [0xEA#8] [] with p := 0xE7#8 } =
      some ([0x00#8, 0x00#8, 0x00#8, 0xFD#8, 0xE7#8], 0x0401#16, 2, []) := by
  decide

-- off-RRA-izy
theorem test_off_rra_izy : seen [0x0040]
    { boot plain 0x0400#16 [0x73#8, 0x40#8] [(0x0040, 0x01#8), (0x0041, 0x20#8), (0x2100, 0x02#8)] with
      y := 0xFF#8 } =
      some ([0x00#8, 0x00#8, 0xFF#8, 0xFD#8, 0x24#8], 0x0402#16, 8, [0x01#8]) := by
  decide

-- off-KIL
theorem test_off_kil : seen []
    (boot plain 0x0400#16 [0x02#8] []) =
      some ([0x00#8, 0x00#8, 0x00#8, 0xFD#8, 0x24#8], 0x0401#16, 2, []) := by
  decide

-- SLO-zp
theorem test_slo_zp : seen [0x0010]
    { boot gated 0x0400#16 [0x07#8, 0x10#8] [(0x0010, 0x81#8)] with a := 0x01#8 } =
      some ([0x03#8, 0x00#8, 0x00#8, 0xFD#8, 0x25#8], 0x0402#16, 5, [0x02#8]) := by
  decide

-- SLO-izx
theorem test_slo_izx : seen [0x2074]
    { boot gated 0x0400#16 [0x03#8, 0x20#8] [(0x0024, 0x74#8), (0x0025, 0x20#8), (0x2074, 0x40#8)] with
      a := 0x00#8, x := 0x04#8 } =
      some ([0x80#8, 0x04#8, 0x00#8, 0xFD#8, 0xA4#8], 0x0402#16, 8, [0x80#8]) := by
  decide

-- SLO-aby
theorem test_slo_aby : seen [0x2100]
    { boot gated 0x0400#16 [0x1B#8, 0xFF#8, 0x20#8] [(0x2100, 0x00#8)] with a := 0x00#8, y := 0x01#8 } =
      some ([0x00#8, 0x00#8, 0x01#8, 0xFD#8, 0x26#8], 0x0403#16, 7, [0x00#8]) := by
  decide

-- RLA-zp
theorem test_rla_zp : seen [0x0010]
    { boot gated 0x0400#16 [0x27#8, 0x10#8] [(0x0010, 0x40#8)] with a := 0xFF#8, p := 0x25#8 } =
      some ([0x81#8, 0x00#8, 0x00#8, 0xFD#8, 0xA4#8], 0x0402#16, 5, [0x81#8]) := by
  decide

-- SRE-zp
theorem test_sre_zp : seen [0x0010]
    { boot gated 0x0400#16 [0x47#8, 0x10#8] [(0x0010, 0x03#8)] with a := 0xFF#8 } =
      some ([0xFE#8, 0x00#8, 0x00#8, 0xFD#8, 0xA5#8], 0x0402#16, 5, [0x01#8]) := by
  decide

-- RRA-zp
theorem test_rra_zp : seen [0x0010]
    { boot gated 0x0400#16 [0x67#8, 0x10#8] [(0x0010, 0x02#8)] with a := 0x10#8, p := 0x25#8 } =
      some ([0x91#8, 0x00#8, 0x00#8, 0xFD#8, 0xA4#8], 0x0402#16, 5, [0x81#8]) := by
  decide

-- DCP-zp
theorem test_dcp_zp : seen [0x0010]
    { boot gated 0x0400#16 [0xC7#8, 0x10#8] [(0x0010, 0x06#8)] with a := 0x05#8 } =
      some ([0x05#8, 0x00#8, 0x00#8, 0xFD#8, 0x27#8], 0x0402#16, 5, [0x05#8]) := by
  decide

-- ISC-zp
theorem test_isc_zp : seen [0x0010]
    { boot gated 0x0400#16 [0xE7#8, 0x10#8] [(0x0010, 0x0F#8)] with a := 0x10#8, p := 0x25#8 } =
      some ([0x00#8, 0x00#8, 0x00#8, 0xFD#8, 0x27#8], 0x0402#16, 5, [0x10#8]) := by
  decide

-- ISC-abx
theorem test_isc_abx : seen [0x1300]
    { boot gated 0x0400#16 [0xFF#8, 0xFF#8, 0x12#8] [(0x1300, 0xFF#8)] with
      a := 0x00#8, x := 0x01#8, p := 0x25#8 } =
      some ([0x00#8, 0x01#8, 0x00#8, 0xFD#8, 0x27#8], 0x0403#16, 7, [0x00#8]) := by
  decide

-- SAX-zp
theorem test_sax_zp : seen [0x0010]
    { boot gated 0x0400#16 [0x87#8, 0x10#8] [] with a := 0xF0#8, x := 0x3C#8, p := 0xA6#8 } =
      some ([0xF0#8, 0x3C#8, 0x00#8, 0xFD#8, 0xA6#8], 0x0402#16, 3, [0x30#8]) := by
  decide

-- SAX-zpy
theorem test_sax_zpy : seen [0x0010]
    { boot gated 0x0400#16 [0x97#8, 0xF0#8] [] with a := 0xFF#8, x := 0x0F#8, y := 0x20#8 } =
      some ([0xFF#8, 0x0F#8, 0x20#8, 0xFD#8, 0x24#8], 0x0402#16, 4, [0x0F#8]) := by
  decide

-- LAX-zp
theorem test_lax_zp : seen [0x0010]
    (boot gated 0x0400#16 [0xA7#8, 0x10#8] [(0x0010, 0x80#8)]) =
      some ([0x80#8, 0x80#8, 0x00#8, 0xFD#8, 0xA4#8], 0x0402#16, 3, [0x80#8]) := by
  decide

-- LAX-imm
theorem test_lax_imm : seen []
    { boot gated 0x0400#16 [0xAB#8, 0x00#8] [] with a := 0x55#8, x := 0x66#8 } =
      some ([0x00#8, 0x00#8, 0x00#8, 0xFD#8, 0x26#8], 0x0402#16, 2, []) := by
  decide

-- LAX-izy-cross
theorem test_lax_izy_cross : seen [0x0040]
    { boot gated 0x0400#16 [0xB3#8, 0x40#8] [(0x0040, 0xFF#8), (0x0041, 0x12#8), (0x1300, 0x77#8)] with
      y := 0x01#8 } =
      some ([0x77#8, 0x77#8, 0x01#8, 0xFD#8, 0x24#8], 0x0402#16, 6, [0xFF#8]) := by
  decide

-- LAS
theorem test_las : seen [0x1210]
    { boot gated 0x0400#16 [0xBB#8, 0x00#8, 0x12#8] [(0x1210, 0xF0#8)] with y := 0x10#8, sp := 0x3C#8 } =
      some ([0x30#8, 0x30#8, 0x10#8, 0x30#8, 0x24#8], 0x0403#16, 4, [0xF0#8]) := by
  decide

-- ANC-neg
theorem test_anc_neg : seen []
    { boot gated 0x0400#16 [0x0B#8, 0x80#8] [] with a := 0xC0#8 } =
      some ([0x80#8, 0x00#8, 0x00#8, 0xFD#8, 0xA5#8], 0x0402#16, 2, []) := by
  decide

-- ANC-pos
theorem test_anc_pos : seen []
    { boot gated 0x0400#16 [0x2B#8, 0x7F#8] [] with a := 0xC0#8, p := 0x25#8 } =
      some ([0x40#8, 0x00#8, 0x00#8, 0xFD#8, 0x24#8], 0x0402#16, 2, []) := by
  decide

-- ALR
theorem test_alr : seen []
    { boot gated 0x0400#16 [0x4B#8, 0x03#8] [] with a := 0xFF#8 } =
      some ([0x01#8, 0x00#8, 0x00#8, 0xFD#8, 0x25#8], 0x0402#16, 2, []) := by
  decide

-- ARR-1
theorem test_arr_1 : seen []
    { boot gated 0x0400#16 [0x6B#8, 0xFF#8] [] with a := 0xC0#8, p := 0x25#8 } =
      some ([0xE0#8, 0x00#8, 0x00#8, 0xFD#8, 0xA5#8], 0x0402#16, 2, []) := by
  decide

-- ARR-3
theorem test_arr_3 : seen []
    { boot gated 0x0400#16 [0x6B#8, 0x40#8] [] with a := 0xFF#8, p := 0x24#8 } =
      some ([0x20#8, 0x00#8, 0x00#8, 0xFD#8, 0x64#8], 0x0402#16, 2, []) := by
  decide

-- XAA
theorem test_xaa : seen []
    { boot gated 0x0400#16 [0x8B#8, 0x0F#8] [] with a := 0xFF#8, x := 0x3C#8 } =
      some ([0x0C#8, 0x3C#8, 0x00#8, 0xFD#8, 0x24#8], 0x0402#16, 2, []) := by
  decide

-- AXS-1
theorem test_axs_1 : seen []
    { boot gated 0x0400#16 [0xCB#8, 0x02#8] [] with a := 0x0F#8, x := 0x07#8 } =
      some ([0x0F#8, 0x05#8, 0x00#8, 0xFD#8, 0x25#8], 0x0402#16, 2, []) := by
  decide

-- AXS-2
theorem test_axs_2 : seen []
    { boot gated 0x0400#16 [0xCB#8, 0x08#8] [] with a := 0xFF#8, x := 0x07#8, p := 0x65#8 } =
      some ([0xFF#8, 0xFF#8, 0x00#8, 0xFD#8, 0xE4#8], 0x0402#16, 2, []) := by
  decide

-- AHX-aby
theorem test_ahx_aby : seen [0x1210]
    { boot gated 0x0400#16 [0x9F#8, 0x00#8, 0x12#8] [] with y := 0x10#8, a := 0xFF#8, x := 0xFF#8 } =
      some ([0xFF#8, 0xFF#8, 0x10#8, 0xFD#8, 0x24#8], 0x0403#16, 5, [0x13#8]) := by
  decide

-- AHX-izy
theorem test_ahx_izy : seen [0x1210]
    { boot gated 0x0400#16 [0x93#8, 0x40#8] [(0x0040, 0x00#8), (0x0041, 0x12#8)] with
      y := 0x10#8, a := 0xF7#8, x := 0x3F#8 } =
      some ([0xF7#8, 0x3F#8, 0x10#8, 0xFD#8, 0x24#8], 0x0402#16, 6, [0x13#8]) := by
  decide

-- SHY
theorem test_shy : seen [0x1210]
    { boot gated 0x0400#16 [0x9C#8, 0x00#8, 0x12#8] [] with x := 0x10#8, y := 0xFF#8 } =
      some ([0x00#8, 0x10#8, 0xFF#8, 0xFD#8, 0x24#8], 0x0403#16, 5, [0x13#8]) := by
  decide

-- SHX
theorem test_shx : seen [0x1210]
    { boot gated 0x0400#16 [0x9E#8, 0x00#8, 0x12#8] [] with y := 0x10#8, x := 0xFF#8 } =
      some ([0x00#8, 0xFF#8, 0x10#8, 0xFD#8, 0x24#8], 0x0403#16, 5, [0x13#8]) := by
  decide

-- TAS
theorem test_tas : seen [0x1210]
    { boot gated 0x0400#16 [0x9B#8, 0x00#8, 0x12#8] [] with y := 0x10#8, a := 0xF3#8, x := 0x3F#8 } =
      some ([0xF3#8, 0x3F#8, 0x10#8, 0x33#8, 0x24#8], 0x0403#16, 5, [0x13#8]) := by
  decide

-- SBC-EB
theorem test_sbc_eb : seen []
    { boot gated 0x0400#16 [0xEB#8, 0x01#8] [] with a := 0x10#8, p := 0x25#8 } =
      some ([0x0F#8, 0x00#8, 0x00#8, 0xFD#8, 0x25#8], 0x0402#16, 2, []) := by
  decide

-- NOP-80
theorem test_nop_80 : seen []
    (boot gated 0x0400#16 [0x80#8, 0xFF#8] []) =
      some ([0x00#8, 0x00#8, 0x00#8, 0xFD#8, 0x24#8], 0x0402#16, 2, []) := by
  decide

-- NOP-1C-cross
theorem test_nop_1c_cross : seen []
    { boot gated 0x0400#16 [0x1C#8, 0xFF#8, 0x10#8] [] with x := 0x01#8 } =
      some ([0x00#8, 0x01#8, 0x00#8, 0xFD#8, 0x24#8], 0x0403#16, 5, []) := by
  decide

-- KIL-F2
theorem test_kil_f2 : seen []
    { boot gated 0x0400#16 [0xF2#8] [] with a := 0x11#8, p := 0xE7#8 } =
      some ([0x11#8, 0x00#8, 0x00#8, 0xFD#8, 0xE7#8], 0x0401#16, 0, []) := by
  decide

/-! ## The gate off (section 2.11), the port events (sections 2.1, 3.1), and the engine (section 3) -/

-- off-SLO-zp: nothing is stored; off-LAX-aby-cross: the page-cross cycle is still charged.
theorem test_gate_off_events :
    portEvents { boot plain 0x0400#16 [0x07#8, 0x10#8] [(0x0010, 0x81#8)] with a := 0x01#8 } =
    some [.read 0x0400#16 0x07#8, .read 0x0401#16 0x10#8, .diagnostic 0x07#8] := by
  decide
theorem test_gate_off_lax_cross :
    seen [0x2100] { boot plain 0x0400#16 [0xBF#8, 0xFF#8, 0x20#8] [(0x2100, 0x77#8)] with y := 0x01#8 } =
      some ([0x00#8, 0x00#8, 0x01#8, 0xFD#8, 0x24#8], 0x0403#16, 5, [0x77#8]) := by
  decide
-- Section 2.1: LDA ($86),Y.
theorem test_events_lda_izy :
    portEvents { boot plain 0x0400#16 [0xB1#8, 0x86#8] [(0x0086, 0xF8#8), (0x0087, 0x40#8), (0x4108, 0x5A#8)] with
      y := 0x10#8 } =
    some [.read 0x0400#16 0xB1#8, .read 0x0401#16 0x86#8, .read 0x0086#16 0xF8#8, .read 0x0087#16 0x40#8,
      .read 0x4108#16 0x5A#8] := by
  decide
-- Section 2.1: INC $12FF,X.
theorem test_events_inc_abx :
    portEvents { boot plain 0x0400#16 [0xFE#8, 0xFF#8, 0x12#8] [(0x1300, 0x7F#8)] with x := 0x01#8 } =
    some [.read 0x0400#16 0xFE#8, .read 0x0401#16 0xFF#8, .read 0x0402#16 0x12#8, .read 0x1300#16 0x7F#8,
      .write 0x1300#16 0x80#8] := by
  decide
-- Section 2.1: JSR $0600.
theorem test_events_jsr :
    portEvents (boot plain 0x0400#16 [0x20#8, 0x00#8, 0x06#8] []) =
    some [.read 0x0400#16 0x20#8, .read 0x0401#16 0x00#8, .read 0x0402#16 0x06#8, .write 0x01FD#16 0x04#8,
      .write 0x01FC#16 0x02#8] := by
  decide
-- Section 2.1: BRK with P = 0x22.
theorem test_events_brk :
    portEvents { boot plain 0x0400#16 [0x00#8] [(0xFFFF, 0x05#8)] with p := 0x22#8 } =
    some [.read 0x0400#16 0x00#8, .write 0x01FD#16 0x04#8, .write 0x01FC#16 0x02#8, .write 0x01FB#16 0x32#8,
      .read 0xFFFE#16 0x00#8, .read 0xFFFF#16 0x05#8] := by
  decide
-- Section 3.1, tick 1: the Immediate operand is read by the semantic function, after the opcode fetch.
theorem test_events_lda_imm :
    portEvents (boot plain 0x0400#16 [0xA9#8, 0x10#8] []) =
    some [.read 0x0400#16 0xA9#8, .read 0x0401#16 0x10#8] := by
  decide
-- Section 3.3, tick 3: the IRQ service, and its form with the other INT_PUSH_BREAK_MASK.
theorem test_irq_service :
    portEvents { boot plain 0x0403#16 [0xEA#8] [(0xFFFF, 0x06#8)] with p := 0x20#8, pendingIrq := true } =
      some [.write 0x01FD#16 0x04#8, .write 0x01FC#16 0x03#8, .write 0x01FB#16 0x30#8, .read 0xFFFE#16 0x00#8,
        .read 0xFFFF#16 0x06#8] ∧
    seen [0x01FB] { boot ⟨false, false, .v24, .unusedOnly⟩ 0x0403#16 [0xEA#8] [(0xFFFF, 0x06#8)] with
        p := 0x20#8, pendingIrq := true } =
      some ([0x00#8, 0x00#8, 0x00#8, 0xFA#8, 0x24#8], 0x0600#16, 7, [0x20#8]) := by
  decide
-- Section 3.5, tick 1: NMI before IRQ, 8 cycles, the IRQ latch kept.
theorem test_nmi_first :
    (stepped (step { boot plain 0x0410#16 [0xEA#8] [(0xFFFB, 0x07#8), (0xFFFF, 0x06#8)] with
        p := 0x20#8, pendingNmi := true, pendingIrq := true })).map
      (fun t => (t.pc, t.p, t.remainingCycles, t.pendingNmi, t.pendingIrq)) =
    some (0x0700#16, 0x24#8, 7#8, false, true) := by
  decide
-- Section 3.6, tick 1: KIL halts without advancing a counter.
theorem test_kil_halts :
    (stepped (step (boot gated 0x0400#16 [0x02#8] []))).map
      (fun t => (t.pc, t.halted, t.remainingCycles, t.totalCycles)) = some (0x0401#16, true, 0x00#8, 0) := by
  decide
-- RST-mid.
theorem test_reset_mid :
    (let t := resetEvent { boot ⟨false, false, .v34, .both⟩ 0x0456#16 [] [(0xFFFC, 0x34#8), (0xFFFD, 0x12#8)] with
        a := 0x11#8, x := 0x22#8, y := 0x33#8, sp := 0x80#8, p := 0xEF#8, remainingCycles := 3#8,
        totalCycles := 1000, pendingIrq := true }
     ([t.a, t.x, t.y, t.sp, t.p], t.pc, t.remainingCycles, t.totalCycles, t.pendingIrq)) =
    ([0x00#8, 0x00#8, 0x00#8, 0xFD#8, 0x34#8], 0x1234#16, 8#8, 1000, true) := by
  decide
-- PO-default-34.
theorem test_power_on_default :
    (let t := powerOnDefault ⟨false, false, .v34, .both⟩ []
     (t.sp, t.p, t.pc, t.remainingCycles)) = (0xFD#8, 0x34#8, 0x0400#16, 0x00#8) := by
  decide
-- R81, R272: a table word placed where the first step after reset fetches.
theorem test_withFetchWord :
    seen [] (State.reset.withFetchWord 16 0x10A9) =
      some ([0x10#8, 0x00#8, 0x00#8, 0xFD#8, 0x24#8], 0x0002#16, 2, []) := by
  decide

/-! ## Witnesses: concrete states and operands that meet the hypotheses of each obligation -/

theorem completes {r : Result} (h : (stepped r).isSome = true) : Completes r := by
  cases r with
  | next t => exact ⟨t, rfl⟩
  | fault f => exact nomatch h
  | refused f => exact nomatch h

/-- Running, at a boundary, with the gate on; index registers at the top of their range. -/
def running : State := { boot gated 0x0400#16 [0x02#8] [(0x01FE, 0x12#8)] with x := 0xFF#8, y := 0xFF#8 }

/-- The same with the gate off and I clear. -/
def gateOff : State := { boot plain 0x0400#16 [0xA9#8, 0x10#8] [] with p := 0x20#8 }

/-- Each instruction listed has the opcode byte beside it, and the state `running` meets every premise the Runs
statements use. -/
abbrev Meets (l : List (Byte × Instr)) : Prop :=
  (∀ e ∈ l, e.2.row.opcode = e.1) ∧ running.halted = false ∧ running.straps.illegalOpcodesEnabled = true ∧
    running.mem.wf = true

theorem witness_Loads : Meets
    ([(0xA9#8, .ldaImm 0xFF#8), (0xA5#8, .ldaZp 0xFF#8), (0xB5#8, .ldaZpx 0xFF#8),
        (0xAD#8, .ldaAbs 0xFF#8 0xFF#8), (0xBD#8, .ldaAbx 0xFF#8 0xFF#8), (0xB9#8, .ldaAby 0xFF#8 0xFF#8),
        (0xA1#8, .ldaIzx 0xFF#8), (0xB1#8, .ldaIzy 0xFF#8), (0xA2#8, .ldxImm 0xFF#8), (0xA6#8, .ldxZp 0xFF#8),
        (0xB6#8, .ldxZpy 0xFF#8), (0xAE#8, .ldxAbs 0xFF#8 0xFF#8), (0xBE#8, .ldxAby 0xFF#8 0xFF#8),
        (0xA0#8, .ldyImm 0xFF#8), (0xA4#8, .ldyZp 0xFF#8), (0xB4#8, .ldyZpx 0xFF#8),
        (0xAC#8, .ldyAbs 0xFF#8 0xFF#8), (0xBC#8, .ldyAbx 0xFF#8 0xFF#8)]) := by
  decide

theorem witness_Stores : Meets
    ([(0x85#8, .staZp 0xFF#8), (0x95#8, .staZpx 0xFF#8), (0x8D#8, .staAbs 0xFF#8 0xFF#8),
        (0x9D#8, .staAbx 0xFF#8 0xFF#8), (0x99#8, .staAby 0xFF#8 0xFF#8), (0x81#8, .staIzx 0xFF#8),
        (0x91#8, .staIzy 0xFF#8), (0x86#8, .stxZp 0xFF#8), (0x96#8, .stxZpy 0xFF#8),
        (0x8E#8, .stxAbs 0xFF#8 0xFF#8), (0x84#8, .styZp 0xFF#8), (0x94#8, .styZpx 0xFF#8),
        (0x8C#8, .styAbs 0xFF#8 0xFF#8)]) := by
  decide

theorem witness_AddWithCarry : Meets
    ([(0x69#8, .adcImm 0xFF#8), (0x65#8, .adcZp 0xFF#8), (0x75#8, .adcZpx 0xFF#8),
        (0x6D#8, .adcAbs 0xFF#8 0xFF#8), (0x7D#8, .adcAbx 0xFF#8 0xFF#8), (0x79#8, .adcAby 0xFF#8 0xFF#8),
        (0x61#8, .adcIzx 0xFF#8), (0x71#8, .adcIzy 0xFF#8)]) := by
  decide

theorem witness_SubtractWithBorrow : Meets
    ([(0xE9#8, .sbcImm 0xFF#8), (0xE5#8, .sbcZp 0xFF#8), (0xF5#8, .sbcZpx 0xFF#8),
        (0xED#8, .sbcAbs 0xFF#8 0xFF#8), (0xFD#8, .sbcAbx 0xFF#8 0xFF#8), (0xF9#8, .sbcAby 0xFF#8 0xFF#8),
        (0xE1#8, .sbcIzx 0xFF#8), (0xF1#8, .sbcIzy 0xFF#8), (0xEB#8, .sbcEB 0xFF#8)]) := by
  decide

theorem witness_LogicalOps : Meets
    ([(0x29#8, .andImm 0xFF#8), (0x25#8, .andZp 0xFF#8), (0x35#8, .andZpx 0xFF#8),
        (0x2D#8, .andAbs 0xFF#8 0xFF#8), (0x3D#8, .andAbx 0xFF#8 0xFF#8), (0x39#8, .andAby 0xFF#8 0xFF#8),
        (0x21#8, .andIzx 0xFF#8), (0x31#8, .andIzy 0xFF#8), (0x09#8, .oraImm 0xFF#8), (0x05#8, .oraZp 0xFF#8),
        (0x15#8, .oraZpx 0xFF#8), (0x0D#8, .oraAbs 0xFF#8 0xFF#8), (0x1D#8, .oraAbx 0xFF#8 0xFF#8),
        (0x19#8, .oraAby 0xFF#8 0xFF#8), (0x01#8, .oraIzx 0xFF#8), (0x11#8, .oraIzy 0xFF#8),
        (0x49#8, .eorImm 0xFF#8), (0x45#8, .eorZp 0xFF#8), (0x55#8, .eorZpx 0xFF#8),
        (0x4D#8, .eorAbs 0xFF#8 0xFF#8), (0x5D#8, .eorAbx 0xFF#8 0xFF#8), (0x59#8, .eorAby 0xFF#8 0xFF#8),
        (0x41#8, .eorIzx 0xFF#8), (0x51#8, .eorIzy 0xFF#8)]) := by
  decide

theorem witness_BitTest : Meets
    ([(0x24#8, .bitZp 0xFF#8), (0x2C#8, .bitAbs 0xFF#8 0xFF#8)]) := by
  decide

theorem witness_ShiftLeftRight : Meets
    ([(0x0A#8, .aslAcc), (0x06#8, .aslZp 0xFF#8), (0x16#8, .aslZpx 0xFF#8), (0x0E#8, .aslAbs 0xFF#8 0xFF#8),
        (0x1E#8, .aslAbx 0xFF#8 0xFF#8), (0x4A#8, .lsrAcc), (0x46#8, .lsrZp 0xFF#8), (0x56#8, .lsrZpx 0xFF#8),
        (0x4E#8, .lsrAbs 0xFF#8 0xFF#8), (0x5E#8, .lsrAbx 0xFF#8 0xFF#8)]) := by
  decide

theorem witness_RotateLeftRight : Meets
    ([(0x2A#8, .rolAcc), (0x26#8, .rolZp 0xFF#8), (0x36#8, .rolZpx 0xFF#8), (0x2E#8, .rolAbs 0xFF#8 0xFF#8),
        (0x3E#8, .rolAbx 0xFF#8 0xFF#8), (0x6A#8, .rorAcc), (0x66#8, .rorZp 0xFF#8), (0x76#8, .rorZpx 0xFF#8),
        (0x6E#8, .rorAbs 0xFF#8 0xFF#8), (0x7E#8, .rorAbx 0xFF#8 0xFF#8)]) := by
  decide

theorem witness_Branches : Meets
    ([(0x90#8, .bcc 0xFF#8), (0xB0#8, .bcs 0xFF#8), (0xF0#8, .beq 0xFF#8), (0xD0#8, .bne 0xFF#8),
        (0x30#8, .bmi 0xFF#8), (0x10#8, .bpl 0xFF#8), (0x50#8, .bvc 0xFF#8), (0x70#8, .bvs 0xFF#8)]) := by
  decide

theorem witness_Compares : Meets
    ([(0xC9#8, .cmpImm 0xFF#8), (0xC5#8, .cmpZp 0xFF#8), (0xD5#8, .cmpZpx 0xFF#8),
        (0xCD#8, .cmpAbs 0xFF#8 0xFF#8), (0xDD#8, .cmpAbx 0xFF#8 0xFF#8), (0xD9#8, .cmpAby 0xFF#8 0xFF#8),
        (0xC1#8, .cmpIzx 0xFF#8), (0xD1#8, .cmpIzy 0xFF#8), (0xE0#8, .cpxImm 0xFF#8), (0xE4#8, .cpxZp 0xFF#8),
        (0xEC#8, .cpxAbs 0xFF#8 0xFF#8), (0xC0#8, .cpyImm 0xFF#8), (0xC4#8, .cpyZp 0xFF#8),
        (0xCC#8, .cpyAbs 0xFF#8 0xFF#8)]) := by
  decide

theorem witness_IncrementsDecrements : Meets
    ([(0xE6#8, .incZp 0xFF#8), (0xF6#8, .incZpx 0xFF#8), (0xEE#8, .incAbs 0xFF#8 0xFF#8),
        (0xFE#8, .incAbx 0xFF#8 0xFF#8), (0xC6#8, .decZp 0xFF#8), (0xD6#8, .decZpx 0xFF#8),
        (0xCE#8, .decAbs 0xFF#8 0xFF#8), (0xDE#8, .decAbx 0xFF#8 0xFF#8), (0xE8#8, .inx), (0xC8#8, .iny),
        (0xCA#8, .dex), (0x88#8, .dey)]) := by
  decide

theorem witness_Transfers : Meets
    ([(0xAA#8, .tax), (0xA8#8, .tay), (0x8A#8, .txa), (0x98#8, .tya), (0xBA#8, .tsx), (0x9A#8, .txs)]) := by
  decide

theorem witness_FlagInstructions : Meets
    ([(0x18#8, .clc), (0xD8#8, .cld), (0x58#8, .cli), (0xB8#8, .clv), (0x38#8, .sec), (0xF8#8, .sed),
        (0x78#8, .sei)]) := by
  decide

theorem witness_PushAndPullInstructions : Meets
    ([(0x48#8, .pha), (0x08#8, .php), (0x68#8, .pla), (0x28#8, .plp)]) := by
  decide

theorem witness_SubroutineCallReturn : Meets
    ([(0x60#8, .rts)]) := by
  decide

theorem witness_Jumps : Meets
    ([(0x4C#8, .jmpAbs 0xFF#8 0xFF#8), (0x6C#8, .jmpInd 0xFF#8 0xFF#8)]) := by
  decide

theorem witness_SoftwareInterrupt : Meets
    ([(0x00#8, .brk)]) := by
  decide

theorem witness_ReturnFromInterrupt : Meets
    ([(0x40#8, .rti)]) := by
  decide

theorem witness_NoOperation : Meets
    ([(0xEA#8, .nop), (0x1A#8, .nop1A), (0x3A#8, .nop3A), (0x5A#8, .nop5A), (0x7A#8, .nop7A),
        (0xDA#8, .nopDA), (0xFA#8, .nopFA), (0x80#8, .nop80 0xFF#8), (0x82#8, .nop82 0xFF#8),
        (0x89#8, .nop89 0xFF#8), (0xC2#8, .nopC2 0xFF#8), (0xE2#8, .nopE2 0xFF#8), (0x04#8, .nop04 0xFF#8),
        (0x44#8, .nop44 0xFF#8), (0x64#8, .nop64 0xFF#8), (0x14#8, .nop14 0xFF#8), (0x34#8, .nop34 0xFF#8),
        (0x54#8, .nop54 0xFF#8), (0x74#8, .nop74 0xFF#8), (0xD4#8, .nopD4 0xFF#8), (0xF4#8, .nopF4 0xFF#8),
        (0x0C#8, .nop0C 0xFF#8 0xFF#8), (0x1C#8, .nop1C 0xFF#8 0xFF#8), (0x3C#8, .nop3C 0xFF#8 0xFF#8),
        (0x5C#8, .nop5C 0xFF#8 0xFF#8), (0x7C#8, .nop7C 0xFF#8 0xFF#8), (0xDC#8, .nopDC 0xFF#8 0xFF#8),
        (0xFC#8, .nopFC 0xFF#8 0xFF#8)]) := by
  decide

theorem witness_ReadModifyWriteComposites : Meets
    ([(0x03#8, .sloIzx 0xFF#8), (0x07#8, .sloZp 0xFF#8), (0x0F#8, .sloAbs 0xFF#8 0xFF#8),
        (0x13#8, .sloIzy 0xFF#8), (0x17#8, .sloZpx 0xFF#8), (0x1B#8, .sloAby 0xFF#8 0xFF#8),
        (0x1F#8, .sloAbx 0xFF#8 0xFF#8), (0x23#8, .rlaIzx 0xFF#8), (0x27#8, .rlaZp 0xFF#8),
        (0x2F#8, .rlaAbs 0xFF#8 0xFF#8), (0x33#8, .rlaIzy 0xFF#8), (0x37#8, .rlaZpx 0xFF#8),
        (0x3B#8, .rlaAby 0xFF#8 0xFF#8), (0x3F#8, .rlaAbx 0xFF#8 0xFF#8), (0x43#8, .sreIzx 0xFF#8),
        (0x47#8, .sreZp 0xFF#8), (0x4F#8, .sreAbs 0xFF#8 0xFF#8), (0x53#8, .sreIzy 0xFF#8),
        (0x57#8, .sreZpx 0xFF#8), (0x5B#8, .sreAby 0xFF#8 0xFF#8), (0x5F#8, .sreAbx 0xFF#8 0xFF#8),
        (0x63#8, .rraIzx 0xFF#8), (0x67#8, .rraZp 0xFF#8), (0x6F#8, .rraAbs 0xFF#8 0xFF#8),
        (0x73#8, .rraIzy 0xFF#8), (0x77#8, .rraZpx 0xFF#8), (0x7B#8, .rraAby 0xFF#8 0xFF#8),
        (0x7F#8, .rraAbx 0xFF#8 0xFF#8), (0xC3#8, .dcpIzx 0xFF#8), (0xC7#8, .dcpZp 0xFF#8),
        (0xCF#8, .dcpAbs 0xFF#8 0xFF#8), (0xD3#8, .dcpIzy 0xFF#8), (0xD7#8, .dcpZpx 0xFF#8),
        (0xDB#8, .dcpAby 0xFF#8 0xFF#8), (0xDF#8, .dcpAbx 0xFF#8 0xFF#8), (0xE3#8, .iscIzx 0xFF#8),
        (0xE7#8, .iscZp 0xFF#8), (0xEF#8, .iscAbs 0xFF#8 0xFF#8), (0xF3#8, .iscIzy 0xFF#8),
        (0xF7#8, .iscZpx 0xFF#8), (0xFB#8, .iscAby 0xFF#8 0xFF#8), (0xFF#8, .iscAbx 0xFF#8 0xFF#8)]) := by
  decide

theorem witness_CombinedLoadStore : Meets
    ([(0x87#8, .saxZp 0xFF#8), (0x97#8, .saxZpy 0xFF#8), (0x8F#8, .saxAbs 0xFF#8 0xFF#8),
        (0x83#8, .saxIzx 0xFF#8), (0xA7#8, .laxZp 0xFF#8), (0xB7#8, .laxZpy 0xFF#8),
        (0xAF#8, .laxAbs 0xFF#8 0xFF#8), (0xBF#8, .laxAby 0xFF#8 0xFF#8), (0xA3#8, .laxIzx 0xFF#8),
        (0xB3#8, .laxIzy 0xFF#8), (0xAB#8, .laxImm 0xFF#8), (0xBB#8, .las 0xFF#8 0xFF#8)]) := by
  decide

theorem witness_ImmediateCombinations : Meets
    ([(0x0B#8, .anc0B 0xFF#8), (0x2B#8, .anc2B 0xFF#8), (0x4B#8, .alr 0xFF#8), (0x6B#8, .arr 0xFF#8),
        (0x8B#8, .xaa 0xFF#8), (0xCB#8, .axs 0xFF#8)]) := by
  decide

theorem witness_UnstableStores : Meets
    ([(0x9F#8, .ahxAby 0xFF#8 0xFF#8), (0x93#8, .ahxIzy 0xFF#8), (0x9C#8, .shy 0xFF#8 0xFF#8),
        (0x9E#8, .shx 0xFF#8 0xFF#8), (0x9B#8, .tas 0xFF#8 0xFF#8)]) := by
  decide

theorem witness_premises : anyState running ∧ gateOn running := ⟨trivial, rfl⟩

theorem witness_DecodeOfEncode : (Instr.nopFC 0xFF#8 0xFF#8).wellFormed = true := by decide

theorem witness_EncodeOfDecode :
    decode [0xAD#8, 0x34#8, 0x12#8, 0x99#8] = .ok (.ldaAbs 0x34#8 0x12#8, [0x99#8]) := by decide

theorem witness_OpcodeByteDecides : (Instr.ldaImm 0x00#8).row.opcode = (Instr.ldaImm 0xFF#8).row.opcode := rfl

/-- The lowest and the highest bit, and a bit that is neither Z nor N. -/
theorem witness_FlagHelpersAndSetZN : (0 < 8 ∧ 7 < 8) ∧ (0 ≠ 1 ∧ 0 ≠ 7) := by decide

theorem witness_DecimalResultIsBcd : (0 ≤ 9 ∧ 9 ≤ 9) := by decide

/-- The three modes whose resolver can answer an extra cycle, each crossing a page. -/
theorem witness_ResolverFrame :
    (resolve .absoluteX 0xFF#8 0x20#8 running).extra = 1 ∧ (resolve .absoluteY 0xFF#8 0x20#8 running).extra = 1 ∧
    (resolve .indirectY 0x10#8 0x00#8 { running with mem := ram [(0x0010, 0xFF#8)] }).extra = 1 := by
  decide

theorem witness_SubroutineCallReturn_jsr : running.halted = false := rfl

theorem witness_GateOff :
    (gateOff.halted = false ∧ gateOff.straps.illegalOpcodesEnabled = false) ∧
    (Instr.kil02.row.cls = .illegal ∧ Instr.kil02.row.mode = .implied) ∧
    ((Instr.laxAby 0xFF#8 0xFF#8).row.cls = .illegal ∧ (Instr.laxAby 0xFF#8 0xFF#8).row.mode = .addr .absoluteY) := by
  decide

/-- SP at the two ends of the stack page. -/
theorem witness_StackRoundTrips :
    running.mem.wf = true ∧ { running with sp := 0x00#8 }.halted = false ∧
    { running with sp := 0xFF#8 }.halted = false := by
  decide

theorem witness_KilHalts :
    gateOn running ∧ Dispatches running ∧ running.byteAt running.pc = 0x02#8 ∧ Instr.kil02.row.opcode = 0x02#8 ∧
    Instr.kilF2.row.opcode = 0xF2#8 :=
  ⟨rfl, ⟨rfl, rfl, rfl, .inl rfl⟩, by decide, rfl, rfl⟩

/-- SEC writes Carry alone; SLO with the gate off writes no flag. -/
theorem witness_FlagWriters :
    Completes (exec .sec running) ∧ Instr.sec.row.mnemonic ∉ Flag.overflow.writers ∧
    Completes (exec (.sloZp 0x10#8) gateOff) ∧ (Instr.sloZp 0x10#8).row.cls = .illegal ∧
    gateOff.straps.illegalOpcodesEnabled = false :=
  ⟨completes (by decide), by decide, completes (by decide), rfl, rfl⟩

/-- NOP is in none of the lists; ASL on memory is the second clause. -/
theorem witness_RegisterWriters :
    Completes (exec .nop running) ∧ Completes (exec (.aslZp 0xFF#8) running) ∧
    (Instr.aslZp 0xFF#8).row.mnemonic ∈ [Mnemonic.asl, .lsr, .rol, .ror] ∧ (Instr.aslZp 0xFF#8).row.mode ≠ .implied :=
  ⟨completes (by decide), completes (by decide), by decide, by decide⟩

/-- A halted state, and a KIL with the gate off, which is not the exception of the last clause. -/
theorem witness_SequencerFrame :
    Completes (exec .nop { running with halted := true }) ∧ Completes (exec .kil02 gateOff) ∧
    ¬(Instr.kil02.row.mnemonic = .kil ∧ gateOn gateOff) :=
  ⟨completes (by decide), completes (by decide), fun h => Bool.noConfusion h.2⟩

/-- STA, STX and STY in a form each with its effective address past a wrap, and PHA with SP at the edge of its page. -/
theorem witness_MemoryFrame_stored :
    (Completes (exec (.staAbx 0xFF#8 0xFF#8) running) ∧ (Instr.staAbx 0xFF#8 0xFF#8).row.mnemonic = .sta) ∧
    (Completes (exec (.stxZpy 0xFF#8) running) ∧ (Instr.stxZpy 0xFF#8).row.mode = .addr .zeroPageY ∧
      (Instr.stxZpy 0xFF#8).row.mnemonic = .stx) ∧
    (Completes (exec (.styZpx 0xFF#8) running) ∧ (Instr.styZpx 0xFF#8).row.mode = .addr .zeroPageX ∧
      (Instr.styZpx 0xFF#8).row.mnemonic = .sty) ∧
    Completes (exec .pha { running with sp := 0x00#8 }) ∧ Instr.pha.row.mnemonic = .pha :=
  ⟨⟨completes (by decide), rfl⟩, ⟨completes (by decide), rfl, rfl⟩, ⟨completes (by decide), rfl, rfl⟩,
    completes (by decide), rfl⟩

theorem witness_MemoryFrame_operand :
    running.mem.wf = true ∧ Completes (exec (.staAbx 0xFF#8 0xFF#8) running) ∧
    (Instr.staAbx 0xFF#8 0xFF#8).row.mode = .addr .absoluteXConst ∧
    (Instr.staAbx 0xFF#8 0xFF#8).row.mnemonic ∈ storesOperand ∧
    0x1234#16 ≠ (resolve .absoluteXConst 0xFF#8 0xFF#8 (fetchOpcode 0x9D#8 running)).opd.ea :=
  ⟨by decide, completes (by decide), rfl, by decide, by decide⟩

/-- PHA, PHP, JSR and BRK with SP at the edge of the stack page, and an address none of them writes. -/
theorem witness_MemoryFrame_stack :
    (∀ i ∈ [Instr.pha, .php, .jsr 0xFF#8 0xFF#8, .brk], Completes (exec i { running with sp := 0x00#8 })) ∧
    0x0200#16 ≠ stackAddr 0x00#8 ∧ 0x0200#16 ≠ stackAddr (0x00#8 - 1#8) ∧ 0x0200#16 ≠ stackAddr (0x00#8 - 2#8) := by
  refine ⟨?_, by decide⟩
  simp only [List.mem_cons, List.not_mem_nil, or_false, forall_eq_or_imp, forall_eq]
  exact ⟨completes (by decide), completes (by decide), completes (by decide), completes (by decide)⟩

/-- The three ways of storing nothing: CMP, ASL on A, an illegal store with the gate off. -/
theorem witness_MemoryFrame_none :
    (Completes (exec (.cmpImm 0xFF#8) running) ∧ (Instr.cmpImm 0xFF#8).row.mnemonic ∉ storesOperand ∧
      (Instr.cmpImm 0xFF#8).row.mnemonic ∉ storesStack) ∧
    (Completes (exec .aslAcc running) ∧ Instr.aslAcc.row.mode = .implied ∧ Instr.aslAcc.row.mnemonic ∈ storesOperand) ∧
    Completes (exec (.saxZp 0xFF#8) gateOff) ∧ (Instr.saxZp 0xFF#8).row.cls = .illegal ∧
    gateOff.straps.illegalOpcodesEnabled = false :=
  ⟨⟨completes (by decide), by decide⟩, ⟨completes (by decide), by decide⟩, completes (by decide), rfl, rfl⟩

/-- BRK, a composite with the gate on, and an illegal store with the gate off. -/
theorem witness_BusAccessCount :
    (Completes (exec .brk gateOff) ∧ Instr.brk.row.cls = .legal) ∧
    (Completes (exec (.sloAbx 0xFF#8 0xFF#8) running) ∧ gateOn running) ∧
    Completes (exec (.saxZp 0xFF#8) gateOff) ∧ (Instr.saxZp 0xFF#8).row.cls = .illegal ∧
    gateOff.straps.illegalOpcodesEnabled = false :=
  ⟨⟨completes (by decide), rfl⟩, ⟨completes (by decide), rfl⟩, completes (by decide), rfl, rfl⟩

theorem witness_StepRunsDecoded :
    Dispatches gateOff ∧
    decode [gateOff.byteAt gateOff.pc, gateOff.byteAt (gateOff.pc + 1#16), gateOff.byteAt (gateOff.pc + 2#16)] =
      .ok (.ldaImm 0x10#8, [0x00#8]) :=
  ⟨⟨rfl, rfl, rfl, .inl rfl⟩, by decide⟩

/-- The two ends of the range the counter can hold. -/
theorem witness_CountdownTick :
    ({ running with remainingCycles := 1#8 }.halted = false ∧
      { running with remainingCycles := 1#8 }.remainingCycles ≠ 0x00#8) ∧
    { running with remainingCycles := 0xFF#8 }.remainingCycles ≠ 0x00#8 := by
  decide

/-- A list of inputs with a PC load and one without. -/
theorem witness_HaltIsTerminal :
    { running with halted := true }.halted = true ∧
    Input.reset ∉ [Input.tick, .nmiRequest, .irqRequest, .loadPc 0xFFFF#16] ∧
    Input.reset ∉ [Input.tick, .nmiRequest] ∧ ∀ v, Input.loadPc v ∉ [Input.tick, .nmiRequest] :=
  ⟨rfl, by decide, by decide, by simp⟩

theorem witness_InterruptService :
    (gateOff.halted = false ∧ gateOff.remainingCycles = 0x00#8) ∧
    { gateOff with pendingNmi := true }.pendingNmi = true ∧
    ({ gateOff with pendingIrq := true }.pendingNmi = false ∧ { gateOff with pendingIrq := true }.pendingIrq = true ∧
      { gateOff with pendingIrq := true }.p.getLsbD 2 = false) := by
  decide

/-- A masked request waits, an unmasked one is taken, an NMI is taken. -/
theorem witness_MaskedIrqWaits :
    (Completes (step { running with pendingIrq := true }) ∧ { running with pendingIrq := true }.p.getLsbD 2 = true) ∧
    (stepped (step { gateOff with pendingIrq := true })).map State.pendingIrq = some false ∧
    (stepped (step { running with pendingNmi := true })).map State.pendingNmi = some false ∧
    Completes (advance .reset running) :=
  ⟨⟨completes (by decide), by decide⟩, by decide, by decide, completes (by decide)⟩

theorem witness_ServiceThenReturn :
    (gateOff.mem.wf = true ∧ gateOff.halted = false ∧ gateOff.remainingCycles = 0x00#8 ∧
      gateOff.p.getLsbD 2 = false) ∧
    Completes (step { gateOff with pendingNmi := true }) ∧ Completes (step { gateOff with pendingIrq := true }) :=
  ⟨by decide, completes (by decide), completes (by decide)⟩

theorem witness_InvariantAtReset : (ram [(0xFFFF, 0x80#8), (0x0000, 0x01#8)]).wf = true := by decide

/-- A running state, and a halted one, that meet the invariant; each makes a step. -/
theorem witness_InvariantKeptByStep :
    (Inv running ∧ Completes (step running)) ∧
    (Inv { running with halted := true } ∧ Completes (step { running with halted := true })) :=
  ⟨⟨⟨by decide, by decide, by decide, by decide⟩, completes (by decide)⟩,
    ⟨⟨by decide, by decide, by decide, by decide⟩, completes (by decide)⟩⟩

theorem witness_InvariantKeptByInputs :
    Inv running ∧ Completes (runInputs [.nmiRequest, .reset, .loadPc 0xFFFF#16, .irqRequest, .tick] running) :=
  ⟨⟨by decide, by decide, by decide, by decide⟩, completes (by decide)⟩

/-- LDA #$10 at a boundary, 2 ticks. -/
theorem witness_TicksPerInstruction :
    Dispatches gateOff ∧ (stepped (exec (fetchedInstr gateOff) gateOff)).map State.halted = some false ∧
    (0 < 2 ∧ 2 ≤ 2) :=
  ⟨⟨rfl, rfl, rfl, .inl rfl⟩, by decide, by decide⟩

theorem witness_TotalCyclesUnused :
    (stepped (step gateOff)).map State.halted = some false ∧ (stepped (step running)).map State.halted = some true := by
  decide

end Sys2Proof.Tests.Slice0
end

section
/-! The flag helpers bit by bit (10_state.md R29, R31): which bits a mask holds, what `setFlag` and `setZN` leave in each
bit of the status register, and the obligation O5 about them. -/

namespace Sys2Proof.Machine

@[simp] theorem getLsbD_flagMask_zero (k : Nat) : (flagMask .zero).getLsbD k = decide (k = 1) := by
  have hmask : flagMask .zero = BitVec.twoPow 8 1 := by decide
  rw [hmask, BitVec.getLsbD_twoPow]
  simp [eq_comm]

@[simp] theorem getLsbD_flagMask_negative (k : Nat) : (flagMask .negative).getLsbD k = decide (k = 7) := by
  have hmask : flagMask .negative = BitVec.twoPow 8 7 := by decide
  rw [hmask, BitVec.getLsbD_twoPow]
  simp [eq_comm]

theorem getFlag_iff (f : Flag) (p : Byte) : getFlag f p = true ↔ p &&& flagMask f ≠ 0x00#8 :=
  decide_eq_true_iff

/-- No bound on `k`: past the width both sides are false. -/
theorem getLsbD_setFlag (f : Flag) (b : Bool) (p : Byte) (k : Nat) :
    (setFlag f b p).getLsbD k = if (flagMask f).getLsbD k then b else p.getLsbD k := by
  have hwidth : p.getLsbD k = true → k < 8 := BitVec.lt_of_getLsbD
  cases b with
  | true => cases hm : (flagMask f).getLsbD k <;> simp [setFlag, hm]
  | false =>
    cases hm : (flagMask f).getLsbD k with
    | true => simp [setFlag, hm]
    | false => simpa [setFlag, hm] using hwidth

theorem getLsbD_setZN (v p : Byte) (k : Nat) :
    (setZN v p).getLsbD k =
      if k = 7 then v.getLsbD 7 else if k = 1 then decide (v = 0x00#8) else p.getLsbD k := by
  simp [setZN, getLsbD_setFlag, BitVec.msb_eq_getLsbD_last]

/-- Settles O5: each clause is the bit-level rule of one helper. -/
theorem flagHelpersAndSetZN : Obligations.FlagHelpersAndSetZN := by
  unfold Obligations.FlagHelpersAndSetZN
  refine ⟨fun f b p k _ => getLsbD_setFlag f b p k, getFlag_iff, fun v p => ⟨?_, ?_, fun k hz hn => ?_⟩⟩
  · rw [getLsbD_setZN, if_neg (by decide), if_pos rfl]
  · rw [getLsbD_setZN, if_pos rfl]
  · rw [getLsbD_setZN, if_neg hn, if_neg hz]

end Sys2Proof.Machine
end

section
/-! The round trip of the encoding (30_encoding.md section 1, R80, R81). The opcode byte selects the row and the row
says how many of the bytes after it are operands; `decode_cons_eq_ok_iff` states `decode` in these words, and the
obligations O1 and O2 are its two directions. -/

namespace Sys2Proof.Machine

theorem rowShape (i : Instr) : Laws.RowShape.Statement i := by
  cases i <;> exact ⟨rfl, rfl⟩

@[simp] theorem wellFormed_eq_true (i : Instr) : i.wellFormed = true := (rowShape i).1

@[simp] theorem length_operands (i : Instr) : i.operands.length = i.row.mode.operandBytes := (rowShape i).2

theorem operandBytes_le_two (m : Mode) : m.operandBytes ≤ 2 := by
  rcases m with _ | _ | m
  · decide
  · decide
  · cases m <;> decide

/-- Each place of the opcode matrix holds one row of the table, whatever the bytes after the opcode (R273), and takes as
many of them as that row's mode consumes, in order (R81). -/
theorem decodeOpcode_row_operands (op b1 b2 : Byte) :
    (decodeOpcode op b1 b2).row = (decodeOpcode op 0x00#8 0x00#8).row ∧
      (decodeOpcode op b1 b2).operands = [b1, b2].take (decodeOpcode op b1 b2).row.mode.operandBytes := by
  unfold decodeOpcode matrixRow0 matrixRow1 matrixRow2 matrixRow3 matrixRow4 matrixRow5 matrixRow6 matrixRow7
    matrixRow8 matrixRow9 matrixRowA matrixRowB matrixRowC matrixRowD matrixRowE matrixRowF
  split <;> split <;> exact ⟨rfl, rfl⟩

/-- Every byte stands in its own place of the matrix (R84). -/
@[simp] theorem opcode_decodeOpcode (op b1 b2 : Byte) : (decodeOpcode op b1 b2).row.opcode = op := by
  have hplace : ∀ op : Byte, (decodeOpcode op 0x00#8 0x00#8).row.opcode = op := by decide
  obtain ⟨hrow, -⟩ := decodeOpcode_row_operands op b1 b2
  rw [hrow, hplace]

/-- The row list of R85 and the matrix of R84 agree, whatever bytes follow the operands. -/
theorem decodeOpcode_operands_append (i : Instr) (rest : List Byte) :
    decodeOpcode i.row.opcode ((i.operands ++ rest).getD 0 0x00#8) ((i.operands ++ rest).getD 1 0x00#8) = i := by
  cases i <;> dsimp only [Instr.row, Instr.operands] <;> rfl

/-- Where enough bytes follow the opcode, the operands are the first of them: the 0 that stands for a missing byte is
never taken. -/
theorem operands_eq_take_of_decodeOpcode_eq {op : Byte} {tail : List Byte} {i : Instr}
    (hi : decodeOpcode op (tail.getD 0 0x00#8) (tail.getD 1 0x00#8) = i)
    (hlen : i.row.mode.operandBytes ≤ tail.length) : i.operands = tail.take i.row.mode.operandBytes := by
  obtain ⟨-, hops⟩ := decodeOpcode_row_operands op (tail.getD 0 0x00#8) (tail.getD 1 0x00#8)
  rw [hi] at hops
  rw [hops]
  have htwo := operandBytes_le_two i.row.mode
  generalize i.row.mode.operandBytes = n at hlen htwo
  match n, tail with
  | 0, _ => rfl
  | 1, _ :: _ => rfl
  | 2, _ :: _ :: _ => rfl

theorem decode_cons_eq_ok_iff {op : Byte} {tail rest : List Byte} {i : Instr} :
    decode (op :: tail) = .ok (i, rest) ↔
      decodeOpcode op (tail.getD 0 0x00#8) (tail.getD 1 0x00#8) = i ∧
        i.row.mode.operandBytes ≤ tail.length ∧ tail.drop i.row.mode.operandBytes = rest := by
  simp only [decode]
  split
  case isTrue hlen =>
    rw [Except.ok.injEq, Prod.mk.injEq]
    constructor
    · rintro ⟨rfl, rfl⟩
      exact ⟨rfl, hlen, rfl⟩
    · rintro ⟨rfl, -, rfl⟩
      exact ⟨rfl, rfl⟩
  case isFalse hshort =>
    refine ⟨nofun, ?_⟩
    rintro ⟨rfl, hlen, -⟩
    exact absurd hlen hshort

/-- Settles O1: the matrix finds the instruction again, and its length says where the rest begins. -/
theorem decodeOfEncode : Obligations.DecodeOfEncode := by
  unfold Obligations.DecodeOfEncode
  intro i rest _
  rw [encode, List.cons_append, decode_cons_eq_ok_iff]
  refine ⟨decodeOpcode_operands_append i rest, ?_, ?_⟩
  · simp
  · rw [← length_operands, List.drop_left]

/-- Settles O2: the opcode is the first byte, and the operands with the rest are the bytes after it. -/
theorem encodeOfDecode : Obligations.EncodeOfDecode := by
  unfold Obligations.EncodeOfDecode
  intro bytes i rest h
  refine ⟨?_, wellFormed_eq_true i⟩
  cases bytes with
  | nil => exact nomatch h
  | cons op tail =>
    obtain ⟨hi, hlen, hrest⟩ := decode_cons_eq_ok_iff.mp h
    have hop : i.row.opcode = op := by rw [← hi, opcode_decodeOpcode]
    have htail : i.operands ++ rest = tail := by
      rw [operands_eq_take_of_decodeOpcode_eq hi hlen, ← hrest, List.take_append_drop]
    rw [encode, hop, List.cons_append, htail]

end Sys2Proof.Machine
end

section
/-! Whole groups of legal rows with a memory operand (50_execution_engine.md R272, R274): a group that shares a mnemonic
runs as the semantic function of that mnemonic says. -/

namespace Sys2Proof.Machine

/-- Only KIL halts, and it takes no memory operand (49_nop_illegal.md R252). -/
@[simp] theorem memSemantic_halted (mn : Mnemonic) (o : MemOperand) (s : State) :
    (memSemantic mn o s).halted = s.halted := by
  cases mn <;> rfl

@[simp] theorem resolved_halted (f : Form) (i : Instr) (s : State) : (f.resolved i s).state.halted = s.halted :=
  resolve_halted f.mode i.byte1 i.byte2 (fetchOpcode f.opcode s)

/-- Claims about a group of legal rows come down to the table and to one equation about their semantic function. -/
theorem runsMemory_of_legal {forms : List Form} {effect : MemOperand → State → State} (premise : State → Prop)
    (mn : Mnemonic) (hrows : ∀ f ∈ forms, RowAt f.opcode ⟨f.opcode, mn, .addr f.mode, f.base, .legal⟩)
    (heffect : ∀ o s, memSemantic mn o s = effect o s) : RunsMemory forms premise effect := by
  intro f hf i s hop hrun _
  have hstill : (memSemantic mn (f.resolved i s).opd (f.resolved i s).state).halted = false := by simp [hrun]
  rw [exec_legal_memory hop (hrows f hf), loadBudget_running hstill, heffect]

end Sys2Proof.Machine
end

section
/-! The logical instructions (42_logical.md R130 to R133): AND, ORA, EOR and the status BIT leaves, with the obligations
O17 and O18 about them. -/

namespace Sys2Proof.Machine

theorem opAnd_eq (o : MemOperand) (s : State) :
    opAnd o s = { afterRead o s with a := s.a &&& o.byte s, p := setZN (s.a &&& o.byte s) s.p } := rfl

theorem opOra_eq (o : MemOperand) (s : State) :
    opOra o s = { afterRead o s with a := s.a ||| o.byte s, p := setZN (s.a ||| o.byte s) s.p } := rfl

theorem opEor_eq (o : MemOperand) (s : State) :
    opEor o s = { afterRead o s with a := s.a ^^^ o.byte s, p := setZN (s.a ^^^ o.byte s) s.p } := rfl

theorem opBit_eq (o : MemOperand) (s : State) :
    opBit o s = { afterRead o s with p := bitStatus s.a (o.byte s) s.p } := rfl

/-- Settles O17: three groups of rows, each with its semantic function. -/
theorem logicalOps : Obligations.LogicalOps := by
  unfold Obligations.LogicalOps
  refine ⟨?_, ?_, ?_⟩
  · exact runsMemory_of_legal anyState .and (by decide) opAnd_eq
  · exact runsMemory_of_legal anyState .ora (by decide) opOra_eq
  · exact runsMemory_of_legal anyState .eor (by decide) opEor_eq

@[simp] theorem getLsbD_flagMask_overflow (k : Nat) : (flagMask .overflow).getLsbD k = decide (k = 6) := by
  have hmask : flagMask .overflow = BitVec.twoPow 8 6 := by decide
  rw [hmask, BitVec.getLsbD_twoPow]
  simp [eq_comm]

theorem getLsbD_bitStatus (a m p : Byte) (k : Nat) :
    (bitStatus a m p).getLsbD k =
      if k = 7 then m.getLsbD 7 else if k = 6 then m.getLsbD 6
      else if k = 1 then decide (a &&& m = 0x00#8) else p.getLsbD k := by
  simp [bitStatus, getLsbD_setFlag]

/-- R133 with masks: bits 6 and 7 of the operand in their own places, Z from the test, the other five bits kept. -/
theorem bitStatus_eq (a m p : Byte) :
    bitStatus a m p =
      (p &&& 0x3D#8) ||| (m &&& 0xC0#8) ||| (if a &&& m = 0x00#8 then 0x02#8 else 0x00#8) := by
  refine BitVec.eq_of_getLsbD_eq fun k hk => ?_
  rw [getLsbD_bitStatus]
  by_cases hz : a &&& m = 0x00#8
  · rw [if_pos hz]
    interval_cases k <;> simp [hz]
  · rw [if_neg hz]
    interval_cases k <;> simp [hz]

/-- Settles O18: one group of rows, and the status of BIT with masks. -/
theorem bitTest : Obligations.BitTest := by
  unfold Obligations.BitTest
  refine runsMemory_of_legal anyState .bit (by decide) fun o s => ?_
  rw [← bitStatus_eq]
  exact opBit_eq o s

end Sys2Proof.Machine
end

section
/-! Whole groups of legal Implied rows (50_execution_engine.md R272, R274): the counterpart of `runsMemory_of_legal` for
rows without a memory operand. -/

namespace Sys2Proof.Machine

@[simp] theorem opBrk_halted (s : State) : (opBrk () s).halted = s.halted := by
  rw [opBrk_frame]

/-- Only KIL halts (49_nop_illegal.md R252). -/
theorem impliedSemantic_halted {mn : Mnemonic} (hmn : mn ≠ .kil) (s : State) :
    (impliedSemantic mn () s).halted = s.halted := by
  cases mn
  case kil => exact absurd rfl hmn
  case brk => exact opBrk_halted s
  all_goals rfl

theorem runsImplied_of_legal {forms : List BareForm} {effect : State → State} (premise : State → Prop)
    (mn : Mnemonic) (hmn : mn ≠ .kil)
    (hrows : ∀ f ∈ forms, RowAt f.opcode ⟨f.opcode, mn, .implied, f.base, .legal⟩)
    (heffect : ∀ s, impliedSemantic mn () s = effect s) : RunsImplied forms premise effect := by
  intro f hf i s hop hrun _
  have hstill : (impliedSemantic mn () (fetchOpcode f.opcode s)).halted = false := by
    rw [impliedSemantic_halted hmn, fetchOpcode_halted, hrun]
  rw [exec_legal_implied hop (hrows f hf), loadBudget_running hstill, heffect]

end Sys2Proof.Machine
end

section
/-! The shifts and rotates (43_shift_rotate.md R140 to R144). The eight semantic functions are `shiftAcc` and `shiftMem`
of four byte functions, so the obligations O19 and O20 rest on one equation for each of the two forms. -/

namespace Sys2Proof.Machine

/-- R140 on the accumulator: no bus access. -/
theorem shiftAcc_eq (f : Byte → Byte → Alu) (s : State) :
    shiftAcc f s = { s with a := (f s.a s.p).value, p := (f s.a s.p).status } := rfl

/-- R140 on memory: one read of the operand, then one write of the result. -/
theorem shiftMem_eq (f : Byte → Byte → Alu) (o : MemOperand) (s : State) :
    shiftMem f o s =
      { afterWrite o (f (o.byte s) s.p).value (afterRead o s) with p := (f (o.byte s) s.p).status } := rfl

/-- Settles O19: the two forms of ASL, then those of LSR. -/
theorem shiftLeftRight : Obligations.ShiftLeftRight := by
  unfold Obligations.ShiftLeftRight
  refine ⟨?_, ?_, ?_, ?_⟩
  · exact runsImplied_of_legal anyState .asl nofun (by decide) (shiftAcc_eq aslByte)
  · exact runsMemory_of_legal anyState .asl (by decide) (shiftMem_eq aslByte)
  · exact runsImplied_of_legal anyState .lsr nofun (by decide) (shiftAcc_eq lsrByte)
  · exact runsMemory_of_legal anyState .lsr (by decide) (shiftMem_eq lsrByte)

/-- Settles O20: the two forms of ROL, then those of ROR. -/
theorem rotateLeftRight : Obligations.RotateLeftRight := by
  unfold Obligations.RotateLeftRight
  refine ⟨?_, ?_, ?_, ?_⟩
  · exact runsImplied_of_legal anyState .rol nofun (by decide) (shiftAcc_eq rolByte)
  · exact runsMemory_of_legal anyState .rol (by decide) (shiftMem_eq rolByte)
  · exact runsImplied_of_legal anyState .ror nofun (by decide) (shiftAcc_eq rorByte)
  · exact runsMemory_of_legal anyState .ror (by decide) (shiftMem_eq rorByte)

end Sys2Proof.Machine
end

section
/-! The compare helper and CMP, CPX, CPY (45_compare.md R165 to R168): what the helper leaves in each bit of the status
register, one equation for each of the three semantic functions, and the obligations O8 and O23. -/

namespace Sys2Proof.Machine

@[simp] theorem getLsbD_flagMask_carry (k : Nat) : (flagMask .carry).getLsbD k = decide (k = 0) := by
  have hmask : flagMask .carry = BitVec.twoPow 8 0 := by decide
  rw [hmask, BitVec.getLsbD_twoPow]
  simp [eq_comm]

/-- R165's difference over the naturals; `256 +` keeps their subtraction from truncating. -/
theorem toNat_compareBytes_value (reg m p : Byte) :
    (compareBytes reg m p).value.toNat = (256 + reg.toNat - m.toNat) % 256 := by
  have hm : m.toNat < 256 := m.isLt
  change (reg - m).toNat = _
  rw [BitVec.toNat_sub]
  omega

theorem getLsbD_compareBytes_status (reg m p : Byte) (k : Nat) :
    (compareBytes reg m p).status.getLsbD k =
      if k = 7 then (compareBytes reg m p).value.getLsbD 7 else if k = 1 then decide (reg = m)
      else if k = 0 then decide (m.toNat ≤ reg.toNat) else p.getLsbD k := by
  simp [compareBytes, getLsbD_setFlag, BitVec.msb_eq_getLsbD_last, BitVec.le_def]

/-- The five bits R165 does not name: I, D, the two Break bits and V. -/
theorem compareBytes_status_and_mask (reg m p : Byte) :
    (compareBytes reg m p).status &&& 0x7C#8 = p &&& 0x7C#8 := by
  refine BitVec.eq_of_getLsbD_eq fun k hk => ?_
  rw [BitVec.getLsbD_and, BitVec.getLsbD_and, getLsbD_compareBytes_status]
  interval_cases k <;> simp

/-- Settles O8: the difference, then bits 0, 1 and 7 of the status from its bit-level rule, then the bits kept. -/
theorem compareHelper : Obligations.CompareHelper := by
  unfold Obligations.CompareHelper
  refine fun reg m p => ⟨toNat_compareBytes_value reg m p, ?_, ?_, ?_, compareBytes_status_and_mask reg m p⟩
  · rw [getLsbD_compareBytes_status, if_neg (by decide), if_neg (by decide), if_pos rfl]
  · rw [getLsbD_compareBytes_status, if_neg (by decide), if_pos rfl]
  · rw [getLsbD_compareBytes_status, if_pos rfl]

theorem opCmp_eq (o : MemOperand) (s : State) :
    opCmp o s = { afterRead o s with p := (compareBytes s.a (o.byte s) s.p).status } := rfl

theorem opCpx_eq (o : MemOperand) (s : State) :
    opCpx o s = { afterRead o s with p := (compareBytes s.x (o.byte s) s.p).status } := rfl

theorem opCpy_eq (o : MemOperand) (s : State) :
    opCpy o s = { afterRead o s with p := (compareBytes s.y (o.byte s) s.p).status } := rfl

/-- Settles O23: three groups of rows, each with its semantic function; the status each leaves is the helper's. -/
theorem compares : Obligations.Compares := by
  unfold Obligations.Compares
  refine ⟨?_, ?_, ?_⟩
  · exact runsMemory_of_legal anyState .cmp (by decide) opCmp_eq
  · exact runsMemory_of_legal anyState .cpx (by decide) opCpx_eq
  · exact runsMemory_of_legal anyState .cpy (by decide) opCpy_eq

end Sys2Proof.Machine
end

section
/-! The stack primitives (46_stack_control.md R170 to R172), each as one update of the state, and the obligation O27
about Push and Pop. SP moves by 1 at a time; the claims about two and three accesses name the whole distance. -/

namespace Sys2Proof.Machine

theorem push_eq (v : Byte) (s : State) :
    push v s =
      { s with
        sp := s.sp - 1#8
        mem := s.mem.write (stackAddr s.sp).toNat v
        trace := .write (stackAddr s.sp) v :: s.trace } := rfl

theorem pop_eq (s : State) :
    pop s =
      (s.byteAt (stackAddr (s.sp + 1#8)),
        { s with
          sp := s.sp + 1#8
          trace := .read (stackAddr (s.sp + 1#8)) (s.byteAt (stackAddr (s.sp + 1#8))) :: s.trace }) := rfl

theorem byte_sub_one_sub_one (b : Byte) : b - 1#8 - 1#8 = b - 2#8 := by bv_omega

theorem byte_sub_two_sub_one (b : Byte) : b - 2#8 - 1#8 = b - 3#8 := by bv_omega

theorem byte_add_one_add_one (b : Byte) : b + 1#8 + 1#8 = b + 2#8 := BitVec.add_assoc b 1#8 1#8

theorem byte_add_one_add_two (b : Byte) : b + 1#8 + 2#8 = b + 3#8 := BitVec.add_assoc b 1#8 2#8

theorem push16_eq_sub_two (w : Addr) (s : State) :
    push16 w s =
      { s with
        sp := s.sp - 2#8
        mem := (s.mem.write (stackAddr s.sp).toNat (highByte w)).write (stackAddr (s.sp - 1#8)).toNat (lowByte w)
        trace := .write (stackAddr (s.sp - 1#8)) (lowByte w) :: .write (stackAddr s.sp) (highByte w) :: s.trace } := by
  rw [push16_eq, byte_sub_one_sub_one]

theorem pop16_eq_add_two (s : State) :
    pop16 s =
      (word (s.byteAt (stackAddr (s.sp + 2#8))) (s.byteAt (stackAddr (s.sp + 1#8))),
        { s with
          sp := s.sp + 2#8
          trace := .read (stackAddr (s.sp + 2#8)) (s.byteAt (stackAddr (s.sp + 2#8)))
            :: .read (stackAddr (s.sp + 1#8)) (s.byteAt (stackAddr (s.sp + 1#8))) :: s.trace }) := by
  rw [pop16_eq, byte_add_one_add_one]

theorem stackAddr_eq_ofNat (sp : Byte) : stackAddr sp = BitVec.ofNat 16 (256 + sp.toNat) := by
  rw [← stackAddr_toNat, BitVec.ofNat_toNat, BitVec.setWidth_eq]

/-- Settles O27: the primitives in one update, with SP and the stack address as numbers. -/
theorem pushAndPop : Obligations.PushAndPop := by
  unfold Obligations.PushAndPop
  constructor
  · intro v s
    have hdown : s.sp - 1#8 = BitVec.ofNat 8 (s.sp.toNat + 255) := by bv_omega
    rw [push_eq, hdown, stackAddr_toNat, stackAddr_eq_ofNat]
  · intro s sp
    have hnat : (s.sp + 1#8).toNat = sp := BitVec.toNat_add s.sp 1#8
    have hup : s.sp + 1#8 = BitVec.ofNat 8 sp := by rw [← hnat, BitVec.ofNat_toNat, BitVec.setWidth_eq]
    rw [pop_eq, State.byteAt, stackAddr_toNat, stackAddr_eq_ofNat, hnat, hup]

end Sys2Proof.Machine
end

section
/-! PHA, PHP, PLA, PLP, JSR, RTS and JMP (46_stack_control.md R173 to R178, R181): one equation for each semantic
function, and the obligations O28, O29 and O30. -/

namespace Sys2Proof.Machine

theorem opPha_eq (s : State) :
    opPha () s =
      { s with
        sp := s.sp - 1#8
        mem := s.mem.write (stackAddr s.sp).toNat s.a
        trace := .write (stackAddr s.sp) s.a :: s.trace } := push_eq s.a s

theorem opPhp_eq (s : State) :
    opPhp () s =
      { s with
        sp := s.sp - 1#8
        mem := s.mem.write (stackAddr s.sp).toNat (s.p ||| 0x30#8)
        trace := .write (stackAddr s.sp) (s.p ||| 0x30#8) :: s.trace } := push_eq (s.p ||| 0x30#8) s

theorem opPla_eq (s : State) :
    opPla () s =
      { s with
        a := s.byteAt (stackAddr (s.sp + 1#8))
        sp := s.sp + 1#8
        p := setZN (s.byteAt (stackAddr (s.sp + 1#8))) s.p
        trace := .read (stackAddr (s.sp + 1#8)) (s.byteAt (stackAddr (s.sp + 1#8))) :: s.trace } := rfl

theorem opPlp_eq (s : State) :
    opPlp () s =
      { s with
        sp := s.sp + 1#8
        p := pulledStatus (s.byteAt (stackAddr (s.sp + 1#8))) s.p
        trace := .read (stackAddr (s.sp + 1#8)) (s.byteAt (stackAddr (s.sp + 1#8))) :: s.trace } := rfl

/-- Settles O28: four rows, each with its semantic function. -/
theorem pushAndPullInstructions : Obligations.PushAndPullInstructions := by
  unfold Obligations.PushAndPullInstructions
  refine ⟨?_, ?_, ?_, ?_⟩
  · exact runsImplied_of_legal anyState .pha nofun (by decide) opPha_eq
  · exact runsImplied_of_legal anyState .php nofun (by decide) opPhp_eq
  · exact runsImplied_of_legal anyState .pla nofun (by decide) opPla_eq
  · exact runsImplied_of_legal anyState .plp nofun (by decide) opPlp_eq

/-- R177 with PC past the instruction, as the Absolute resolver leaves it. -/
theorem opJsr_eq (o : MemOperand) (s : State) :
    opJsr o s =
      { s with
        sp := s.sp - 2#8
        pc := o.ea
        mem := (s.mem.write (stackAddr s.sp).toNat (highByte (s.pc - 1#16))).write (stackAddr (s.sp - 1#8)).toNat
          (lowByte (s.pc - 1#16))
        trace := .write (stackAddr (s.sp - 1#8)) (lowByte (s.pc - 1#16))
          :: .write (stackAddr s.sp) (highByte (s.pc - 1#16)) :: s.trace } := by
  rw [opJsr, push16_eq_sub_two]

theorem opRts_eq (s : State) :
    opRts () s =
      { s with
        sp := s.sp + 2#8
        pc := word (s.byteAt (stackAddr (s.sp + 2#8))) (s.byteAt (stackAddr (s.sp + 1#8))) + 1#16
        trace := .read (stackAddr (s.sp + 2#8)) (s.byteAt (stackAddr (s.sp + 2#8)))
          :: .read (stackAddr (s.sp + 1#8)) (s.byteAt (stackAddr (s.sp + 1#8))) :: s.trace } := by
  rw [opRts, pop16_eq_add_two]

/-- The row of JSR, its semantic function on the state the Absolute resolver leaves. -/
theorem exec_jsr (l h : Byte) {s : State} (hrun : s.halted = false) :
    exec (.jsr l h) s =
      .next (addCycles 6 (opJsr (.cell (word h l)) (fetchOperand h (fetchOperand l (fetchOpcode 0x20#8 s))))) :=
  runsMemory_of_legal (forms := [⟨0x20#8, .absolute, 6⟩]) anyState .jsr (by decide) (fun _ _ => rfl)
    _ List.mem_cons_self (.jsr l h) s rfl hrun trivial

/-- Settles O29: with two operand bytes fetched, PC less 1 is the address of JSR's last byte. -/
theorem subroutineCallReturn : Obligations.SubroutineCallReturn := by
  unfold Obligations.SubroutineCallReturn
  refine ⟨fun l h s hrun => ?_, ?_⟩
  · have hlast : s.pc + 1#16 + 1#16 = s.pc + 2#16 := BitVec.add_assoc s.pc 1#16 1#16
    rw [exec_jsr l h hrun, opJsr_eq]
    simp only [addCycles, fetchOperand, fetchOpcode, BitVec.add_sub_cancel, hlast]
    rfl
  · exact runsImplied_of_legal anyState .rts nofun (by decide) opRts_eq

theorem opJmp_eq (o : MemOperand) (s : State) : opJmp o s = { s with pc := o.ea } := rfl

/-- Settles O30: one group of rows. -/
theorem jumps : Obligations.Jumps := by
  unfold Obligations.Jumps
  exact runsMemory_of_legal anyState .jmp (by decide) opJmp_eq

end Sys2Proof.Machine
end

section
/-! The entry BRK shares with IRQ and NMI and the return from it (46_stack_control.md R179, R180; 60_exceptions.md
R296), each in one update of the state, and the obligations O31 and O32 about BRK and RTI. -/

namespace Sys2Proof.Machine

theorem enterInterrupt_eq_entered (w : Addr) (b : Byte) (vector : Addr) (s : State) :
    enterInterrupt w b vector s = entered w b (setFlag .interruptDisable true s.p) vector s := by
  simp only [enterInterrupt, push16_eq_sub_two, push_eq, byte_sub_two_sub_one]
  rfl

theorem returnFromInterrupt_eq (s : State) :
    returnFromInterrupt s =
      { s with
        sp := s.sp + 3#8
        p := pulledStatus (s.byteAt (stackAddr (s.sp + 1#8))) s.p
        pc := word (s.byteAt (stackAddr (s.sp + 3#8))) (s.byteAt (stackAddr (s.sp + 2#8)))
        trace := [.read (stackAddr (s.sp + 3#8)) (s.byteAt (stackAddr (s.sp + 3#8))),
            .read (stackAddr (s.sp + 2#8)) (s.byteAt (stackAddr (s.sp + 2#8))),
            .read (stackAddr (s.sp + 1#8)) (s.byteAt (stackAddr (s.sp + 1#8)))] ++ s.trace } := by
  simp only [returnFromInterrupt, pop_eq, pop16_eq_add_two, byte_add_one_add_one, byte_add_one_add_two]
  rfl

/-- Break set live, then I: masks 0x30 and 0x04 together (R28). -/
theorem setFlag_interruptDisable_setFlag_brk (p : Byte) :
    setFlag .interruptDisable true (setFlag .brk true p) = p ||| 0x34#8 :=
  BitVec.or_assoc p 0x30#8 0x04#8

theorem opBrk_eq (s : State) :
    opBrk () s = entered (s.pc + 1#16) (s.p ||| 0x30#8) (s.p ||| 0x34#8) 0xFFFE#16 s := by
  rw [← setFlag_interruptDisable_setFlag_brk]
  exact enterInterrupt_eq_entered _ _ _ _

/-- Settles O31: one row, and the shared entry. -/
theorem softwareInterrupt : Obligations.SoftwareInterrupt := by
  unfold Obligations.SoftwareInterrupt
  exact runsImplied_of_legal anyState .brk nofun (by decide) opBrk_eq

/-- Settles O32: one row, and the return. The obligation's own name is taken by the operation. -/
theorem rtiReturnsFromInterrupt : Obligations.ReturnFromInterrupt := by
  unfold Obligations.ReturnFromInterrupt
  exact runsImplied_of_legal anyState .rti nofun (by decide) returnFromInterrupt_eq

end Sys2Proof.Machine
end

section
/-! Register transfers and single-flag writes (47_transfer_flag.md R190 to R202): one equation for each transfer, one for
each direction of the flag write the seven flag instructions share, and the obligations O25 and O26. -/

namespace Sys2Proof.Machine

theorem opTax_eq (s : State) : opTax () s = { s with x := s.a, p := setZN s.a s.p } := rfl

theorem opTay_eq (s : State) : opTay () s = { s with y := s.a, p := setZN s.a s.p } := rfl

theorem opTxa_eq (s : State) : opTxa () s = { s with a := s.x, p := setZN s.x s.p } := rfl

theorem opTya_eq (s : State) : opTya () s = { s with a := s.y, p := setZN s.y s.p } := rfl

theorem opTsx_eq (s : State) : opTsx () s = { s with x := s.sp, p := setZN s.sp s.p } := rfl

/-- R195: the one transfer that leaves P alone. -/
theorem opTxs_eq (s : State) : opTxs () s = { s with sp := s.x } := rfl

/-- Settles O25: six rows, each with its semantic function. -/
theorem transfers : Obligations.Transfers := by
  unfold Obligations.Transfers
  refine ⟨?_, ?_, ?_, ?_, ?_, ?_⟩
  · exact runsImplied_of_legal anyState .tax nofun (by decide) opTax_eq
  · exact runsImplied_of_legal anyState .tay nofun (by decide) opTay_eq
  · exact runsImplied_of_legal anyState .txa nofun (by decide) opTxa_eq
  · exact runsImplied_of_legal anyState .tya nofun (by decide) opTya_eq
  · exact runsImplied_of_legal anyState .tsx nofun (by decide) opTsx_eq
  · exact runsImplied_of_legal anyState .txs nofun (by decide) opTxs_eq

/-- Setting a flag, with its mask of R27 as a number. -/
theorem writeFlag_true_eq {f : Flag} {mask : Byte} (hmask : flagMask f = mask) (s : State) :
    writeFlag f true s = { s with p := s.p ||| mask } := by
  rw [← hmask]
  rfl

/-- Clearing a flag, with the mask of the bits kept as a number. -/
theorem writeFlag_false_eq {f : Flag} {kept : Byte} (hkept : ~~~ flagMask f = kept) (s : State) :
    writeFlag f false s = { s with p := s.p &&& kept } := by
  rw [← hkept]
  rfl

/-- Settles O26: seven rows, each a write of one flag with the mask R27 gives it. -/
theorem flagInstructions : Obligations.FlagInstructions := by
  unfold Obligations.FlagInstructions
  have hclc : ~~~ flagMask .carry = 0xFE#8 := by decide
  have hcld : ~~~ flagMask .decimal = 0xF7#8 := by decide
  have hcli : ~~~ flagMask .interruptDisable = 0xFB#8 := by decide
  have hclv : ~~~ flagMask .overflow = 0xBF#8 := by decide
  refine ⟨?_, ?_, ?_, ?_, ?_, ?_, ?_⟩
  · exact runsImplied_of_legal anyState .clc nofun (by decide) (writeFlag_false_eq hclc)
  · exact runsImplied_of_legal anyState .cld nofun (by decide) (writeFlag_false_eq hcld)
  · exact runsImplied_of_legal anyState .cli nofun (by decide) (writeFlag_false_eq hcli)
  · exact runsImplied_of_legal anyState .clv nofun (by decide) (writeFlag_false_eq hclv)
  · exact runsImplied_of_legal anyState .sec nofun (by decide) (writeFlag_true_eq (f := .carry) rfl)
  · exact runsImplied_of_legal anyState .sed nofun (by decide) (writeFlag_true_eq (f := .decimal) rfl)
  · exact runsImplied_of_legal anyState .sei nofun (by decide) (writeFlag_true_eq (f := .interruptDisable) rfl)

end Sys2Proof.Machine
end

section
/-! Loads, stores, increments and decrements (48_load_store_incdec.md R210 to R221): one equation for each semantic
function, INC and DEC sharing that of `stepMem`, and the obligations O13, O14 and O24. -/

namespace Sys2Proof.Machine

theorem opLda_eq (o : MemOperand) (s : State) :
    opLda o s = { afterRead o s with a := o.byte s, p := setZN (o.byte s) s.p } := rfl

theorem opLdx_eq (o : MemOperand) (s : State) :
    opLdx o s = { afterRead o s with x := o.byte s, p := setZN (o.byte s) s.p } := rfl

theorem opLdy_eq (o : MemOperand) (s : State) :
    opLdy o s = { afterRead o s with y := o.byte s, p := setZN (o.byte s) s.p } := rfl

/-- Settles O13: three groups of rows, each with its semantic function. -/
theorem loads : Obligations.Loads := by
  unfold Obligations.Loads
  refine ⟨?_, ?_, ?_⟩
  · exact runsMemory_of_legal anyState .lda (by decide) opLda_eq
  · exact runsMemory_of_legal anyState .ldx (by decide) opLdx_eq
  · exact runsMemory_of_legal anyState .ldy (by decide) opLdy_eq

theorem opSta_eq (o : MemOperand) (s : State) : opSta o s = afterWrite o s.a s := rfl

theorem opStx_eq (o : MemOperand) (s : State) : opStx o s = afterWrite o s.x s := rfl

theorem opSty_eq (o : MemOperand) (s : State) : opSty o s = afterWrite o s.y s := rfl

/-- Settles O14: three groups of rows; each semantic function is one bus write, which leaves P alone. -/
theorem stores : Obligations.Stores := by
  unfold Obligations.Stores
  refine ⟨?_, ?_, ?_⟩
  · exact runsMemory_of_legal anyState .sta (by decide) opSta_eq
  · exact runsMemory_of_legal anyState .stx (by decide) opStx_eq
  · exact runsMemory_of_legal anyState .sty (by decide) opSty_eq

/-- INC and DEC on memory: one read of the operand, then one write of the stepped byte. -/
theorem stepMem_eq (f : Byte → Byte) (o : MemOperand) (s : State) :
    stepMem f o s =
      { afterWrite o (f (o.byte s)) (afterRead o s) with p := setZN (f (o.byte s)) s.p } := rfl

theorem opInx_eq (s : State) : opInx () s = { s with x := s.x + 1#8, p := setZN (s.x + 1#8) s.p } := rfl

theorem opIny_eq (s : State) : opIny () s = { s with y := s.y + 1#8, p := setZN (s.y + 1#8) s.p } := rfl

theorem opDex_eq (s : State) : opDex () s = { s with x := s.x - 1#8, p := setZN (s.x - 1#8) s.p } := rfl

theorem opDey_eq (s : State) : opDey () s = { s with y := s.y - 1#8, p := setZN (s.y - 1#8) s.p } := rfl

/-- Settles O24: INC and DEC on memory, then the four steps of an index register, which make no bus access. -/
theorem incrementsDecrements : Obligations.IncrementsDecrements := by
  unfold Obligations.IncrementsDecrements
  refine ⟨?_, ?_, ?_, ?_, ?_, ?_⟩
  · exact runsMemory_of_legal anyState .inc (by decide) (stepMem_eq (· + 1#8))
  · exact runsMemory_of_legal anyState .dec (by decide) (stepMem_eq (· - 1#8))
  · exact runsImplied_of_legal anyState .inx nofun (by decide) opInx_eq
  · exact runsImplied_of_legal anyState .iny nofun (by decide) opIny_eq
  · exact runsImplied_of_legal anyState .dex nofun (by decide) opDex_eq
  · exact runsImplied_of_legal anyState .dey nofun (by decide) opDey_eq

end Sys2Proof.Machine
end

section
/-! Decode as a table lookup on the opcode byte (50_execution_engine.md R273), and the obligation O3. No mode takes more
than two operand bytes, so three bytes always hold an instruction. -/

namespace Sys2Proof.Machine

/-- "decode cannot fail" (R273). -/
theorem decode_three_bytes (op b1 b2 : Byte) :
    decode [op, b1, b2] =
      .ok (decodeOpcode op b1 b2, [b1, b2].drop (decodeOpcode op b1 b2).row.mode.operandBytes) :=
  decode_cons_eq_ok_iff.mpr ⟨rfl, operandBytes_le_two _, rfl⟩

/-- An instruction and the bytes left over after its operands make up the bytes it was decoded from. -/
theorem size_add_length_of_decode_eq_ok {bytes rest : List Byte} {i : Instr} (h : decode bytes = .ok (i, rest)) :
    i.size + rest.length = bytes.length := by
  obtain ⟨rfl, -⟩ := encodeOfDecode bytes i rest h
  rw [List.length_append, encode, List.length_cons, length_operands, Instr.size, Nat.add_comm 1]

theorem row_eq_of_opcode_eq {i j : Instr} (h : i.row.opcode = j.row.opcode) : i.row = j.row := by
  have hj : RowAt j.row.opcode j.row := (row_eq rfl rfl).symm
  exact row_eq h hj

/-- Settles O3: three bytes are enough for every mode, and every row is the one the matrix holds at its opcode byte. -/
theorem opcodeByteDecides : Obligations.OpcodeByteDecides := by
  unfold Obligations.OpcodeByteDecides
  refine ⟨fun op b1 b2 => ?_, fun i j => row_eq_of_opcode_eq⟩
  have hdecode := decode_three_bytes op b1 b2
  exact ⟨_, _, hdecode, opcode_decodeOpcode op b1 b2, wellFormed_eq_true _, size_add_length_of_decode_eq_ok hdecode⟩

end Sys2Proof.Machine
end

section
/-! The interrupt check at an instruction boundary and the service it leads to (60_exceptions.md R294, R296), as one
update of the state through the entry BRK shares, and the obligation O49. -/

namespace Sys2Proof.Machine

theorem getFlag_interruptDisable (p : Byte) : getFlag .interruptDisable p = p.getLsbD 2 := by
  have hmask : flagMask .interruptDisable = BitVec.twoPow 8 2 := by decide
  rw [Bool.eq_iff_iff, getFlag_iff, hmask, BitVec.and_twoPow]
  cases p.getLsbD 2 <;> decide

theorem step_eq_boundaryTick {s : State} (hrun : s.halted = false) (hzero : s.remainingCycles = 0x00#8) :
    step s = boundaryTick s := by
  simp [step, hrun, hzero]

theorem boundaryTick_of_pendingNmi {s : State} (hnmi : s.pendingNmi = true) :
    boundaryTick s = .next (endTick (service nmiVector 8 { s with pendingNmi := false })) := by
  simp [boundaryTick, hnmi]

theorem boundaryTick_of_pendingIrq {s : State} (hnmi : s.pendingNmi = false) (hirq : s.pendingIrq = true)
    (hclear : getFlag .interruptDisable s.p = false) :
    boundaryTick s = .next (endTick (service irqVector 7 { s with pendingIrq := false })) := by
  simp [boundaryTick, hnmi, hirq, hclear]

/-- A service stacks PC and P with the forced Break bits, and loads its cost on top of the budget. -/
theorem service_eq_entered (vector : Addr) (cost : Nat) (s : State) :
    service vector cost s =
      addCycles cost (entered s.pc (s.p ||| s.straps.intPushBreakMask.toByte) (s.p ||| 0x04#8) vector s) := by
  rw [service, enterInterrupt_eq_entered]
  rfl

/-- The tick of a service at a boundary leaves its cost less the cycle it took itself (R275). -/
theorem endTick_service_of_boundary (vector : Addr) (cost : Nat) {s : State} (hzero : s.remainingCycles = 0x00#8) :
    endTick (service vector cost s) =
      { entered s.pc (s.p ||| s.straps.intPushBreakMask.toByte) (s.p ||| 0x04#8) vector s with
        remainingCycles := BitVec.ofNat 8 cost - 1#8, totalCycles := s.totalCycles + 1 } := by
  simp only [service_eq_entered, endTick, addCycles, entered, hzero, BitVec.zero_add]

/-- Settles O49: the latch is cleared before the service, which neither reads nor writes it. -/
theorem interruptService : Obligations.InterruptService := by
  unfold Obligations.InterruptService
  intro s hrun hzero
  refine ⟨fun hnmi => ?_, fun hnmi hirq hi => ?_⟩
  · have hservice := endTick_service_of_boundary nmiVector 8 (s := { s with pendingNmi := false }) hzero
    rw [step_eq_boundaryTick hrun hzero, boundaryTick_of_pendingNmi hnmi, hservice]
    rfl
  · have hclear : getFlag .interruptDisable s.p = false := (getFlag_interruptDisable s.p).trans hi
    have hservice := endTick_service_of_boundary irqVector 7 (s := { s with pendingIrq := false }) hzero
    rw [step_eq_boundaryTick hrun hzero, boundaryTick_of_pendingIrq hnmi hirq hclear, hservice]
    rfl

end Sys2Proof.Machine
end

section
/-! Which bits of P an instruction may write (10_state.md R30). Each status helper leaves P alone under any mask that
misses the flags it writes; `statusMask` collects these flags for a mnemonic, and the obligation O41 compares it with
the table of writers. -/

namespace Sys2Proof.Machine

/-- Bits of P outside the flag are kept by a write of the flag. -/
theorem setFlag_and {f : Flag} {kept : Byte} (hkept : flagMask f &&& kept = 0x00#8) (b : Bool) (p : Byte) :
    setFlag f b p &&& kept = p &&& kept := by
  refine BitVec.eq_of_getLsbD_eq fun k _ => ?_
  have hbit : ((flagMask f).getLsbD k && kept.getLsbD k) = false := by
    rw [← BitVec.getLsbD_and, hkept, BitVec.getLsbD_zero]
  rw [BitVec.getLsbD_and, BitVec.getLsbD_and, getLsbD_setFlag]
  cases hf : (flagMask f).getLsbD k with
  | false => rfl
  | true =>
    rw [hf, Bool.true_and] at hbit
    rw [hbit, Bool.and_false, Bool.and_false]

theorem setZN_and {kept : Byte} (hz : flagMask .zero &&& kept = 0x00#8) (hn : flagMask .negative &&& kept = 0x00#8)
    (v p : Byte) : setZN v p &&& kept = p &&& kept := by
  rw [setZN, setFlag_and hn, setFlag_and hz]

/-- The adder writes C, Z, V and N (R120, R121). -/
theorem sumResult_status_and_mask (a m : Byte) (sum : BitVec 16) (p : Byte) :
    (sumResult a m sum p).status &&& 0x3C#8 = p &&& 0x3C#8 := by
  simp (disch := decide) only [sumResult, setZN_and, setFlag_and]

theorem adder_status_and_mask (cfg : Config) (a m : Byte) (sub : Bool) (p : Byte) :
    (adder cfg a m sub p).status &&& 0x3C#8 = p &&& 0x3C#8 := by
  unfold adder
  split
  · exact sumResult_status_and_mask _ _ _ p
  · exact sumResult_status_and_mask _ _ _ p

theorem shifted_status_and_mask (r : Byte) (out : Bool) (p : Byte) :
    (shifted r out p).status &&& 0x7C#8 = p &&& 0x7C#8 := by
  simp (disch := decide) only [shifted, setZN_and, setFlag_and]

theorem bitStatus_and_mask (a m p : Byte) : bitStatus a m p &&& 0x3D#8 = p &&& 0x3D#8 := by
  simp (disch := decide) only [bitStatus, setFlag_and]

/-- The PLP rule leaves the two Break bits alone (R176). -/
theorem pulledStatus_and_break (v p : Byte) : pulledStatus v p &&& 0x30#8 = p &&& 0x30#8 := by
  unfold pulledStatus
  rw [BitVec.and_or_distrib_right, BitVec.and_assoc, BitVec.and_assoc]
  simp

/-- The bits of P each mnemonic may write, one mask for both of its forms. -/
def statusMask : Mnemonic → Byte
  | .adc | .sbc | .rra | .isc | .arr => 0xC3#8
  | .asl | .lsr | .rol | .ror | .cmp | .cpx | .cpy | .slo | .rla | .sre | .dcp | .anc | .alr | .axs => 0x83#8
  | .bit => 0xC2#8
  | .and | .ora | .eor | .lda | .ldx | .ldy | .inc | .dec | .lax | .xaa | .las => 0x82#8
  | .pla | .tax | .tay | .txa | .tya | .tsx | .inx | .iny | .dex | .dey => 0x82#8
  | .clc | .sec => 0x01#8
  | .cli | .sei => 0x04#8
  | .cld | .sed => 0x08#8
  | .clv => 0x40#8
  | .plp | .rti => 0xCF#8
  | .brk => 0x34#8
  | _ => 0x00#8

/-- Outside `statusMask`, a memory form leaves P alone: one status helper for each primitive, two for a composite. -/
theorem memSemantic_p_and (mn : Mnemonic) (o : MemOperand) (s : State) :
    (memSemantic mn o s).p &&& ~~~ statusMask mn = s.p &&& ~~~ statusMask mn := by
  cases mn
  case adc | sbc => exact adder_status_and_mask _ _ _ _ _
  case and | ora | eor | lda | ldx | ldy | inc | dec | las => exact setZN_and (by decide) (by decide) _ _
  case bit => exact bitStatus_and_mask _ _ _
  case asl | lsr | rol | ror => exact shifted_status_and_mask _ _ _
  case cmp | cpx | cpy | axs => exact compareBytes_status_and_mask _ _ _
  case slo | rla | sre =>
    exact (setZN_and (by decide) (by decide) _ _).trans (shifted_status_and_mask _ _ _)
  case rra =>
    refine (adder_status_and_mask _ _ _ _ _).trans ?_
    exact (setZN_and (by decide) (by decide) _ _).trans (setFlag_and (by decide) _ _)
  case dcp => exact (compareBytes_status_and_mask _ _ _).trans (setZN_and (by decide) (by decide) _ _)
  case isc => exact (adder_status_and_mask _ _ _ _ _).trans (setZN_and (by decide) (by decide) _ _)
  case lax | xaa => exact (setZN_and (by decide) (by decide) _ _).trans (setZN_and (by decide) (by decide) _ _)
  case anc => exact (setFlag_and (by decide) _ _).trans (setZN_and (by decide) (by decide) _ _)
  case alr => exact (shifted_status_and_mask _ _ _).trans (setZN_and (by decide) (by decide) _ _)
  case arr =>
    refine (setFlag_and (by decide) _ _).trans ((setFlag_and (by decide) _ _).trans ?_)
    refine (setZN_and (by decide) (by decide) _ _).trans ((setFlag_and (by decide) _ _).trans ?_)
    exact setZN_and (by decide) (by decide) _ _
  all_goals rfl

/-- The same for the forms without a memory operand. -/
theorem impliedSemantic_p_and (mn : Mnemonic) (s : State) :
    (impliedSemantic mn () s).p &&& ~~~ statusMask mn = s.p &&& ~~~ statusMask mn := by
  cases mn
  case asl | lsr | rol | ror => exact shifted_status_and_mask _ _ _
  case pla | tax | tay | txa | tya | tsx | inx | iny | dex | dey => exact setZN_and (by decide) (by decide) _ _
  case plp | rti => exact pulledStatus_and_break _ _
  case clc | cld | cli | clv | sec | sed | sei => exact setFlag_and (by decide) _ _
  case brk =>
    have hkept : 0x34#8 &&& ~~~ statusMask .brk = 0x00#8 := by decide
    rw [impliedSemantic, opBrk_eq, entered, BitVec.and_or_distrib_right, hkept, BitVec.or_zero]
  all_goals rfl

theorem branch_p (c : Bool) (n : Byte) (s : State) : (branch c n s).p = s.p := by
  rw [branch_frame]

theorem relativeSemantic_p (mn : Mnemonic) (n : Byte) (s : State) : (relativeSemantic mn n s).p = s.p := by
  cases mn
  case bcc | bcs | beq | bne | bmi | bpl | bvc | bvs => exact branch_p _ n s
  all_goals rfl

/-- `statusMask` names no flag that R30 does not list for the mnemonic. -/
theorem flagMask_subset_kept {mn : Mnemonic} {f : Flag} (h : mn ∉ f.writers) :
    ~~~ statusMask mn &&& flagMask f = flagMask f := by
  revert h
  cases f <;> cases mn <;> decide


/-- R28: bits 4 and 5 outlive every mnemonic but BRK, which sets them. -/
theorem Effect.p_and {i : Instr} {s u : State} (h : Effect i s u) :
    u.p &&& ~~~ statusMask i.row.mnemonic = s.p &&& ~~~ statusMask i.row.mnemonic := by
  cases h with
  | implied _ => exact impliedSemantic_p_and _ _
  | relative _ => rw [relativeSemantic_p, fetchOperand_p, fetchOpcode_p]
  | memory m _ => rw [memSemantic_p_and, resolve_p, fetchOpcode_p]

theorem GatedEffect.p {i : Instr} {s u : State} (h : GatedEffect i s u) : u.p = s.p := by
  cases h with
  | implied _ => rfl
  | memory m _ => rw [record_p, resolve_p, fetchOpcode_p]

/-- Settles O41: outside its mask a mnemonic leaves P alone, and R30 lists every flag of the mask. -/
theorem flagWriters : Obligations.FlagWriters := by
  unfold Obligations.FlagWriters
  intro i s t hexec
  obtain ⟨n, u, rfl, -, -, ⟨heffect, hgate⟩ | ⟨hcls, hoff, hgated⟩⟩ := exec_inversion hexec
  · refine ⟨fun f hf => ?_, fun hcls hoff => ?_⟩
    · have hmask : ~~~ statusMask i.row.mnemonic &&& flagMask f = flagMask f := flagMask_subset_kept hf
      rw [loadBudget_p, ← hmask, ← BitVec.and_assoc, heffect.p_and, BitVec.and_assoc]
    · exact absurd (hgate hcls) (by simp [gateOn, hoff])
  · simp [hgated.p]

end Sys2Proof.Machine
end

section
/-! The resolvers (40_addressing_modes.md R100 to R117) in closed form: addresses as numbers, the page-cross signal as a
sum that leaves a byte, and the obligations O9 to O12. -/

namespace Sys2Proof.Machine

theorem addr_add_one_add_one (w : Addr) : w + 1#16 + 1#16 = w + 2#16 := BitVec.add_assoc w 1#16 1#16

theorem word_toNat (h l : Byte) : (word h l).toNat = l.toNat + 256 * h.toNat := by
  have hl := l.isLt
  rw [word, BitVec.toNat_append, Nat.shiftLeft_eq, Nat.mul_comm, ← Nat.two_pow_add_eq_or_of_lt hl]
  omega

theorem word_eq_ofNat (h l : Byte) : word h l = BitVec.ofNat 16 (l.toNat + 256 * h.toNat) := by
  rw [← word_toNat, BitVec.ofNat_toNat, BitVec.setWidth_eq]

theorem zext16_eq_ofNat (b : Byte) : zext16 b = BitVec.ofNat 16 b.toNat := by
  rw [zext16, BitVec.ofNat_toNat]

theorem zext16_toNat (b : Byte) : (zext16 b).toNat = b.toNat := by
  have := b.isLt
  rw [zext16, BitVec.toNat_setWidth, Nat.mod_eq_of_lt (by omega)]

theorem highByte_toNat (w : Addr) : (highByte w).toNat = w.toNat / 256 := by
  have := w.isLt
  rw [highByte, BitVec.extractLsb'_toNat, Nat.shiftRight_eq_div_pow]
  omega

theorem word_add_zext16 (h l index : Byte) :
    word h l + zext16 index = BitVec.ofNat 16 (l.toNat + 256 * h.toNat + index.toNat) := by
  rw [word_eq_ofNat, zext16_eq_ofNat, ← BitVec.ofNat_add]

/-- R115: an index crosses a page when it carries out of the low byte, at the top of memory too. -/
theorem crossing_word (h l index : Byte) :
    crossing (word h l) (word h l + zext16 index) = if 255 < l.toNat + index.toNat then 1 else 0 := by
  have hl := l.isLt
  have hh := h.isLt
  have hi := index.isLt
  have hpage : highByte (word h l) = highByte (word h l + zext16 index) ↔ ¬ 255 < l.toNat + index.toNat := by
    rw [← BitVec.toNat_inj, highByte_toNat, highByte_toNat, BitVec.toNat_add, word_toNat, zext16_toNat]
    omega
  simp only [crossing, hpage, ite_not]

theorem absoluteIndexed_eq (index l h : Byte) (s : State) :
    absoluteIndexed index l h s =
      { opd := .cell (BitVec.ofNat 16 (l.toNat + 256 * h.toNat + index.toNat))
        extra := if 255 < l.toNat + index.toNat then 1 else 0
        state := fetchOperand h (fetchOperand l s) } := by
  rw [absoluteIndexed, crossing_word, word_add_zext16]

/-- Settles O9: after two fetches the base is used alone, with an index, or with an index and no signal. -/
theorem resolveAbsoluteModes : Obligations.ResolveAbsoluteModes := by
  unfold Obligations.ResolveAbsoluteModes
  intro l h s after ea cross
  have hafter : after = fetchOperand h (fetchOperand l s) := by
    simp only [fetchOperand, addr_add_one_add_one, after]
  rw [hafter]
  refine ⟨?_, ?_, ?_, ?_, ?_⟩
  · rw [resolve, absolute, word_eq_ofNat]
    rfl
  · exact absoluteIndexed_eq s.x l h s
  · exact absoluteIndexed_eq s.y l h s
  · exact congrArg constCycle (absoluteIndexed_eq s.x l h s)
  · exact congrArg constCycle (absoluteIndexed_eq s.y l h s)

theorem zext16_add_eq_ofNat (n index : Byte) :
    zext16 (n + index) = BitVec.ofNat 16 ((n.toNat + index.toNat) % 256) := by
  rw [zext16_eq_ofNat, BitVec.toNat_add]

/-- Settles O10: the index is added before the byte is widened, so the sum wraps inside page 0. -/
theorem resolveZeroPageModes : Obligations.ResolveZeroPageModes := by
  unfold Obligations.ResolveZeroPageModes
  intro n b2 s after
  refine ⟨?_, ?_, ?_, rfl⟩
  · rw [resolve, zeroPage, zext16_eq_ofNat]
    rfl
  · rw [resolve, zeroPageX, zext16_add_eq_ofNat]
    rfl
  · rw [resolve, zeroPageY, zext16_add_eq_ofNat]
    rfl

/-- A read at an address below 65536, the address as a number. -/
theorem memRead_ofNat {k : Nat} (hk : k < addressSpace) (s : State) :
    memRead (BitVec.ofNat 16 k) s =
      (s.mem.read k, { s with trace := .read (BitVec.ofNat 16 k) (s.mem.read k) :: s.trace }) := by
  have hnat : (BitVec.ofNat 16 k).toNat = k := Nat.mod_eq_of_lt hk
  rw [memRead, record, State.byteAt, hnat]

theorem zeroPageWord_eq (p : Byte) (s : State) :
    zeroPageWord p s =
      (word (s.mem.read ((p.toNat + 1) % 256)) (s.mem.read p.toNat),
        { s with
          trace := .read (BitVec.ofNat 16 ((p.toNat + 1) % 256)) (s.mem.read ((p.toNat + 1) % 256))
            :: .read (BitVec.ofNat 16 p.toNat) (s.mem.read p.toNat) :: s.trace }) := by
  have hp : p.toNat < addressSpace := Nat.lt_trans p.isLt (by decide)
  have hq : (p.toNat + 1) % 256 < addressSpace := Nat.lt_trans (Nat.mod_lt _ (by decide)) (by decide)
  have hnext : zext16 (p + 1#8) = BitVec.ofNat 16 ((p.toNat + 1) % 256) := zext16_add_eq_ofNat p 1#8
  rw [zeroPageWord, hnext, zext16_eq_ofNat, memRead_ofNat hp, memRead_ofNat hq]

theorem samePageNext_word (h l : Byte) :
    samePageNext (word h l) = BitVec.ofNat 16 (256 * h.toNat + (l.toNat + 1) % 256) := by
  rw [samePageNext, highByte_word, lowByte_word, word_eq_ofNat, BitVec.toNat_add, Nat.add_comm]
  rfl

/-- Settles O11: the pointer bytes are two reads at addresses below 65536, in page 0 for three of the modes. -/
theorem resolveIndirectModes : Obligations.ResolveIndirectModes := by
  unfold Obligations.ResolveIndirectModes
  intro l h s ptr next low word16 px px1 pl pl1 after
  have hl := l.isLt
  have hh := h.isLt
  have hpx : (l + s.x).toNat = px := BitVec.toNat_add l s.x
  have hpx1 : (px + 1) % 256 = px1 := Nat.mod_add_mod _ _ _
  refine ⟨?_, ?_, ?_, ?_⟩
  · have hptr : ptr < addressSpace := by simp only [ptr, addressSpace]; omega
    have hnext : next < addressSpace := by simp only [next, addressSpace]; omega
    have hlow : word h l = BitVec.ofNat 16 ptr := word_eq_ofNat h l
    have hhigh : samePageNext (word h l) = BitVec.ofNat 16 next := samePageNext_word h l
    rw [resolve, indirect, hhigh, hlow, memRead_ofNat hptr, memRead_ofNat hnext, word_eq_ofNat]
    simp only [fetchOperand, addr_add_one_add_one]
    rfl
  · rw [resolve, indirectX, zeroPageWord_eq, fetchOperand, hpx, hpx1, word_eq_ofNat]
  · rw [resolve, indirectY, zeroPageWord_eq, crossing_word, word_add_zext16]
    rfl
  · rw [resolve, indirectYConst, indirectY, constCycle, zeroPageWord_eq, word_add_zext16]
    rfl

/-- R59 and R100: the reads a resolver makes, newest first, and PC past the operand bytes. -/
theorem resolve_state_eq (m : AddrMode) (b1 b2 : Byte) (s : State) :
    ∃ reads : List PortEvent,
      (resolve m b1 b2 s).state =
        { s with pc := s.pc + BitVec.ofNat 16 (Mode.addr m).operandBytes, trace := reads ++ s.trace } ∧
      reads.length = resolverReads (.addr m) ∧ ∀ e ∈ reads, ∃ a v, e = .read a v := by
  have htwo : fetchOperand b2 (fetchOperand b1 s) =
      { s with pc := s.pc + 2#16, trace := [.read (s.pc + 1#16) b2, .read s.pc b1] ++ s.trace } := by
    simp only [fetchOperand, addr_add_one_add_one, List.cons_append, List.nil_append]
  cases m
  case absolute | absoluteX | absoluteXConst | absoluteY | absoluteYConst => exact ⟨_, htwo, rfl, by simp⟩
  case immediate => exact ⟨[], rfl, rfl, by simp⟩
  case indirect =>
    have hpointer : (resolve .indirect b1 b2 s).state =
        (memRead (samePageNext (word b2 b1)) (memRead (word b2 b1) (fetchOperand b2 (fetchOperand b1 s))).2).2 := rfl
    rw [htwo] at hpointer
    exact ⟨[.read _ _, .read _ _, .read (s.pc + 1#16) b2, .read s.pc b1], hpointer, rfl, by simp⟩
  case indirectX | indirectY | indirectYConst => exact ⟨[.read _ _, .read _ _, .read s.pc b1], rfl, rfl, by simp⟩
  case zeroPage | zeroPageX | zeroPageY => exact ⟨[.read s.pc b1], rfl, rfl, by simp⟩

/-- The signal is the crossing of R115, which only the three modes without a constant cost report (R117). -/
theorem eq_of_resolve_extra_eq_one {m : AddrMode} {b1 b2 : Byte} {s : State} (h : (resolve m b1 b2 s).extra = 1) :
    m = .absoluteX ∨ m = .absoluteY ∨ m = .indirectY := by
  cases m
  case absoluteX => exact .inl rfl
  case absoluteY => exact .inr (.inl rfl)
  case indirectY => exact .inr (.inr rfl)
  all_goals exact nomatch h

/-- Settles O12: what a resolver reads, and when it signals an extra cycle. -/
theorem resolverFrame : Obligations.ResolverFrame := by
  unfold Obligations.ResolverFrame
  refine ⟨fun m b1 b2 s => ?_, fun _ => rfl, fun _ _ => rfl⟩
  exact ⟨resolve_state_eq m b1 b2 s, resolve_extra_le m b1 b2 s, eq_of_resolve_extra_eq_one⟩

end Sys2Proof.Machine
end

section
/-! One dispatch in closed form (50_execution_engine.md R272, R274): the state its resolver leaves is the state it began
in with PC past the instruction and the reads recorded, and `exec` answers the row's semantic function of that state, or
the notice alone, with a budget loaded. The three modes are told apart here and not again. -/

namespace Sys2Proof.Machine

/-- The state with PC just past the instruction (R26). -/
def State.past (i : Instr) (s : State) : State := { s with pc := s.pc + BitVec.ofNat 16 i.size }

/-- What the resolver leaves: PC past the instruction, the opcode fetch and the resolver's reads recorded. -/
def State.resolved (i : Instr) (reads : List PortEvent) (s : State) : State :=
  { s.past i with trace := reads ++ .read s.pc i.row.opcode :: s.trace }

/-- Nothing but bus reads, as many as the table of R59 says for the mode. -/
def ResolverReads (m : Mode) (reads : List PortEvent) : Prop :=
  reads.length = resolverReads m ∧ ∀ e ∈ reads, ∃ a v, e = .read a v

/-- The semantic function of the row, on the operand that resolves from `s`. -/
def rowSemantic (i : Instr) (s t : State) : State :=
  match i.row.mode with
  | .implied => impliedSemantic i.row.mnemonic () t
  | .relative => relativeSemantic i.row.mnemonic i.byte1 t
  | .addr m => memSemantic i.row.mnemonic (resolve m i.byte1 i.byte2 (fetchOpcode i.row.opcode s)).opd t

theorem rowSemantic_implied {i : Instr} (hm : i.row.mode = .implied) (s t : State) :
    rowSemantic i s t = impliedSemantic i.row.mnemonic () t := by
  rw [rowSemantic, hm]

theorem rowSemantic_relative {i : Instr} (hm : i.row.mode = .relative) (s t : State) :
    rowSemantic i s t = relativeSemantic i.row.mnemonic i.byte1 t := by
  rw [rowSemantic, hm]

theorem rowSemantic_memory {i : Instr} {m : AddrMode} (hm : i.row.mode = .addr m) (s t : State) :
    rowSemantic i s t =
      memSemantic i.row.mnemonic (resolve m i.byte1 i.byte2 (fetchOpcode i.row.opcode s)).opd t := by
  rw [rowSemantic, hm]

theorem fetchOpcode_eq_resolved {i : Instr} (hm : i.row.mode = .implied) (s : State) :
    fetchOpcode i.row.opcode s = s.resolved i [] := by
  rw [fetchOpcode, State.resolved, State.past, Instr.size, hm]
  rfl

theorem fetchOperand_eq_resolved {i : Instr} (hm : i.row.mode = .relative) (s : State) :
    fetchOperand i.byte1 (fetchOpcode i.row.opcode s) = s.resolved i [.read (s.pc + 1#16) i.byte1] := by
  simp only [fetchOperand, fetchOpcode, addr_add_one_add_one, State.resolved, State.past, Instr.size, hm]
  rfl

theorem resolve_eq_resolved {i : Instr} {m : AddrMode} (hm : i.row.mode = .addr m) (s : State) :
    ∃ reads, (resolve m i.byte1 i.byte2 (fetchOpcode i.row.opcode s)).state = s.resolved i reads ∧
      ResolverReads i.row.mode reads := by
  obtain ⟨reads, hstate, hreads⟩ := resolve_state_eq m i.byte1 i.byte2 (fetchOpcode i.row.opcode s)
  refine ⟨reads, ?_, hm ▸ hreads⟩
  rw [hstate, State.resolved, State.past, Instr.size, hm, BitVec.ofNat_add, ← BitVec.add_assoc]
  rfl

theorem Effect.eq_rowSemantic {i : Instr} {s u : State} (h : Effect i s u) :
    ∃ reads, ResolverReads i.row.mode reads ∧ u = rowSemantic i s (s.resolved i reads) := by
  cases h with
  | implied hm =>
    refine ⟨[], by simp [ResolverReads, hm, resolverReads], ?_⟩
    rw [rowSemantic_implied hm, fetchOpcode_eq_resolved hm]
  | relative hm =>
    refine ⟨[.read (s.pc + 1#16) i.byte1], by simp [ResolverReads, hm, resolverReads], ?_⟩
    rw [rowSemantic_relative hm, fetchOperand_eq_resolved hm]
  | memory m hm =>
    obtain ⟨reads, hstate, hreads⟩ := resolve_eq_resolved hm s
    exact ⟨reads, hreads, by rw [rowSemantic_memory hm, hstate]⟩

theorem GatedEffect.eq_record {i : Instr} {s u : State} (h : GatedEffect i s u) :
    ∃ reads, ResolverReads i.row.mode reads ∧ u = record (.diagnostic i.row.opcode) (s.resolved i reads) := by
  cases h with
  | implied hm => exact ⟨[], by simp [ResolverReads, hm, resolverReads], by rw [fetchOpcode_eq_resolved hm]⟩
  | memory m hm =>
    obtain ⟨reads, hstate, hreads⟩ := resolve_eq_resolved hm s
    exact ⟨reads, hreads, by rw [hstate]⟩

/-- `exec_inversion` with the state its effects begin in written out. -/
theorem exec_eq_next {i : Instr} {s t : State} (h : exec i s = .next t) :
    ∃ n reads u, t = loadBudget n u ∧ (2 ≤ n ∧ n ≤ 8) ∧ ResolverReads i.row.mode reads ∧
      ((u = rowSemantic i s (s.resolved i reads) ∧ (i.row.cls = .illegal → gateOn s)) ∨
        (u = record (.diagnostic i.row.opcode) (s.resolved i reads) ∧ i.row.cls = .illegal ∧
          s.straps.illegalOpcodesEnabled = false)) := by
  obtain ⟨n, u, ht, hlow, hhigh, ⟨heffect, hgate⟩ | ⟨hcls, hoff, hgated⟩⟩ := exec_inversion h
  · obtain ⟨reads, hreads, hu⟩ := heffect.eq_rowSemantic
    exact ⟨n, reads, u, ht, ⟨hlow, hhigh⟩, hreads, .inl ⟨hu, hgate⟩⟩
  · obtain ⟨reads, hreads, hu⟩ := hgated.eq_record
    exact ⟨n, reads, u, ht, ⟨hlow, hhigh⟩, hreads, .inr ⟨hu, hcls, hoff⟩⟩

end Sys2Proof.Machine
end

section
/-! What an instruction leaves alone besides P: the registers R21 to R26 it is no writer of, the latches, the straps and
`total_cycles` (10_state.md R32 to R36), and `halted` unless it is KIL (49_nop_illegal.md R252). One relation says it
for a semantic function and for `exec` alike, and the obligations O42 and O43 are read off it. -/

namespace Sys2Proof.Machine

/-- What the mnemonic keeps of `s` in `u`, in either of its forms. -/
structure Frame (mn : Mnemonic) (s u : State) : Prop where
  a : mn ∉ [.adc, .sbc, .and, .ora, .eor, .lda, .pla, .txa, .tya, .asl, .lsr, .rol, .ror, .slo, .rla, .sre, .rra, .lax,
    .anc, .alr, .arr, .xaa, .las, .isc] → u.a = s.a
  x : mn ∉ [.ldx, .tax, .tsx, .inx, .dex, .lax, .axs, .las] → u.x = s.x
  y : mn ∉ [.ldy, .tay, .iny, .dey] → u.y = s.y
  sp : mn ∉ [.txs, .tas, .las, .pha, .php, .pla, .plp, .jsr, .rts, .brk, .rti] → u.sp = s.sp
  pc : mn ∉ [.bcc, .bcs, .beq, .bne, .bmi, .bpl, .bvc, .bvs, .jmp, .jsr, .rts, .rti, .brk] → u.pc = s.pc
  halted : mn ≠ .kil → u.halted = s.halted
  stays : s.halted = true → u.halted = true
  latches : u.pendingNmi = s.pendingNmi ∧ u.pendingIrq = s.pendingIrq
  outside : u.totalCycles = s.totalCycles ∧ u.straps = s.straps

/-- A change of the counter and the trace alone is in every frame. -/
theorem Frame.of_bus (mn : Mnemonic) (r : Byte) (events : List PortEvent) (s : State) :
    Frame mn s { s with remainingCycles := r, trace := events } :=
  ⟨fun _ => rfl, fun _ => rfl, fun _ => rfl, fun _ => rfl, fun _ => rfl, fun _ => rfl, id, ⟨rfl, rfl⟩, ⟨rfl, rfl⟩⟩

theorem memSemantic_frame (mn : Mnemonic) (o : MemOperand) (s : State) : Frame mn s (memSemantic mn o s) := by
  constructor
  case a | x | y | sp | pc | halted =>
    intro h
    cases mn <;> first | exact absurd (by decide) h | rfl
  case stays => cases mn <;> exact id
  case latches | outside => cases mn <;> exact ⟨rfl, rfl⟩

theorem impliedSemantic_frame (mn : Mnemonic) (s : State) : Frame mn s (impliedSemantic mn () s) := by
  by_cases hbrk : mn = .brk
  · subst hbrk
    have hentered : impliedSemantic .brk () s = entered (s.pc + 1#16) (s.p ||| 0x30#8) (s.p ||| 0x34#8) 0xFFFE#16 s :=
      opBrk_eq s
    rw [hentered]
    constructor
    case a | x | y | halted => exact fun _ => rfl
    case sp | pc => exact fun h => absurd (by decide) h
    case stays => exact id
    case latches | outside => exact ⟨rfl, rfl⟩
  · constructor
    case a | x | y | sp | pc | halted =>
      intro h
      cases mn <;> first | exact absurd rfl hbrk | exact absurd (by decide) h | rfl
    case stays => cases mn <;> first | exact absurd rfl hbrk | exact id | exact fun _ => rfl
    case latches | outside => cases mn <;> first | exact absurd rfl hbrk | exact ⟨rfl, rfl⟩

theorem relativeSemantic_frame (mn : Mnemonic) (n : Byte) (s : State) : Frame mn s (relativeSemantic mn n s) := by
  have hbranch (c : Bool) (hmn : mn ∈ [.bcc, .bcs, .beq, .bne, .bmi, .bpl, .bvc, .bvs, .jmp, .jsr, .rts, .rti, .brk]) :
      Frame mn s (branch c n s) := by
    rw [branch_frame]
    exact ⟨fun _ => rfl, fun _ => rfl, fun _ => rfl, fun _ => rfl, fun h => absurd hmn h, fun _ => rfl, id, ⟨rfl, rfl⟩,
      ⟨rfl, rfl⟩⟩
  cases mn
  case bcc | bcs | beq | bne | bmi | bpl | bvc | bvs => exact hbranch _ (by decide)
  all_goals exact Frame.of_bus _ s.remainingCycles s.trace s

theorem Frame.trans {mn : Mnemonic} {s t u : State} (h : Frame mn s t) (h' : Frame mn t u) : Frame mn s u :=
  ⟨fun hm => (h'.a hm).trans (h.a hm), fun hm => (h'.x hm).trans (h.x hm), fun hm => (h'.y hm).trans (h.y hm),
    fun hm => (h'.sp hm).trans (h.sp hm), fun hm => (h'.pc hm).trans (h.pc hm),
    fun hm => (h'.halted hm).trans (h.halted hm), h'.stays ∘ h.stays,
    ⟨h'.latches.1.trans h.latches.1, h'.latches.2.trans h.latches.2⟩,
    ⟨h'.outside.1.trans h.outside.1, h'.outside.2.trans h.outside.2⟩⟩

theorem loadBudget_frame (mn : Mnemonic) (n : Nat) (s : State) : Frame mn s (loadBudget n s) := by
  unfold loadBudget
  split
  · exact Frame.of_bus mn s.remainingCycles s.trace s
  · exact Frame.of_bus mn _ s.trace s

theorem rowSemantic_frame (i : Instr) (s t : State) : Frame i.row.mnemonic t (rowSemantic i s t) := by
  rcases hm : i.row.mode with _ | _ | m
  · rw [rowSemantic_implied hm]
    exact impliedSemantic_frame _ t
  · rw [rowSemantic_relative hm]
    exact relativeSemantic_frame _ _ t
  · rw [rowSemantic_memory hm]
    exact memSemantic_frame _ _ t

/-- Everything outside the writer lists is as the dispatch found it, with PC past the instruction. -/
theorem exec_frame {i : Instr} {s t : State} (h : exec i s = .next t) : Frame i.row.mnemonic (s.past i) t := by
  obtain ⟨n, reads, u, rfl, -, -, ⟨rfl, -⟩ | ⟨rfl, -⟩⟩ := exec_eq_next h
  · exact ((Frame.of_bus _ _ _ (s.past i)).trans (rowSemantic_frame i s _)).trans (loadBudget_frame _ n _)
  · exact (Frame.of_bus _ _ _ (s.past i)).trans (loadBudget_frame _ n _)

/-- Only its accumulator form lets a shift write A (R140). -/
theorem rowSemantic_a_of_shift {i : Instr} (hmn : i.row.mnemonic ∈ [.asl, .lsr, .rol, .ror])
    (hm : i.row.mode ≠ .implied) (s t : State) : (rowSemantic i s t).a = t.a := by
  simp only [List.mem_cons, List.not_mem_nil, or_false] at hmn
  rcases hmode : i.row.mode with _ | _ | m
  · exact absurd hmode hm
  · rw [rowSemantic_relative hmode]
    rcases hmn with h | h | h | h <;> rw [h] <;> rfl
  · rw [rowSemantic_memory hmode]
    rcases hmn with h | h | h | h <;> rw [h] <;> rfl

theorem exec_a_of_shift {i : Instr} {s t : State} (h : exec i s = .next t)
    (hmn : i.row.mnemonic ∈ [.asl, .lsr, .rol, .ror]) (hm : i.row.mode ≠ .implied) : t.a = s.a := by
  obtain ⟨n, reads, u, rfl, -, -, ⟨rfl, -⟩ | ⟨rfl, -⟩⟩ := exec_eq_next h
  · rw [loadBudget_a, rowSemantic_a_of_shift hmn hm]
    rfl
  · rw [loadBudget_a]
    rfl

/-- Settles O42: the frame clause by clause, and the memory forms of the shifts. -/
theorem registerWriters : Obligations.RegisterWriters := by
  unfold Obligations.RegisterWriters
  intro i s t h
  have hframe := exec_frame h
  exact ⟨hframe.a, exec_a_of_shift h, hframe.x, hframe.y, hframe.sp, hframe.pc⟩

theorem classMatches_eq_true (i : Instr) : i.row.classMatches = true := by
  have hwf := wellFormed_eq_true i
  rw [Instr.wellFormed, Row.wellFormed, Bool.and_eq_true] at hwf
  exact hwf.2

theorem cls_of_illegalName {i : Instr} (h : i.row.mnemonic.illegalName = true) : i.row.cls = .illegal := by
  have hcls := classMatches_eq_true i
  simpa [Row.classMatches, h] using hcls

/-- With the gate off KIL is a no-op like every illegal byte (R231). -/
theorem exec_halted_of_gateOff {i : Instr} {s t : State} (h : exec i s = .next t) (hcls : i.row.cls = .illegal)
    (hoff : ¬ gateOn s) : t.halted = s.halted := by
  obtain ⟨n, reads, u, rfl, -, -, ⟨-, hgate⟩ | ⟨rfl, -⟩⟩ := exec_eq_next h
  · exact absurd (hgate hcls) hoff
  · rw [loadBudget_halted]
    rfl

/-- Settles O43: the frame, and for KIL with the gate off that the notice replaces its semantic function. -/
theorem sequencerFrame : Obligations.SequencerFrame := by
  unfold Obligations.SequencerFrame
  intro i s t h
  have hframe := exec_frame h
  obtain ⟨hnmi, hirq⟩ := hframe.latches
  obtain ⟨htotal, hstraps⟩ := hframe.outside
  refine ⟨hnmi, hirq, htotal, hstraps, hframe.stays, fun hkil => ?_⟩
  by_cases hmn : i.row.mnemonic = .kil
  · have hcls : i.row.cls = .illegal := cls_of_illegalName (by rw [hmn]; rfl)
    exact exec_halted_of_gateOff h hcls fun hon => hkil ⟨hmn, hon⟩
  · exact hframe.halted hmn

end Sys2Proof.Machine
end

section
/-! The bus accesses of a dispatch and the memory it leaves (20_memory.md R59, R63, R70; 49_nop_illegal.md): the row's
semantic function records what `semanticAccesses` lists, the resolver's part of the trace stores nothing, and a byte no
listed write names keeps its value. The obligations O44 and O45. -/

namespace Sys2Proof.Machine

theorem acceptsVariant_eq_true (i : Instr) : i.row.mnemonic.shape.acceptsVariant i.row.mode = true := by
  have hwf := wellFormed_eq_true i
  simp only [Instr.wellFormed, Row.wellFormed, Bool.and_eq_true] at hwf
  exact hwf.1.1.1.1

/-- A branch makes no access of its own (R59). -/
theorem relativeSemantic_recorded {i : Instr} (hm : i.row.mode = .relative) (n : Byte) (s : State) :
    Recorded [] s (relativeSemantic i.row.mnemonic n s) := by
  obtain ⟨c, hc⟩ := relativeSemantic_eq_branch hm n s
  rw [hc, branch_frame]
  exact ⟨[], rfl, rfl, rfl⟩

theorem targetAddress_bare {i : Instr} (hm : i.row.mode = .implied ∨ i.row.mode = .relative) (s : State) :
    targetAddress i s = none := by
  rcases hm with hm | hm <;> rw [targetAddress, hm]

theorem targetAddress_memory {i : Instr} {m : AddrMode} (hm : i.row.mode = .addr m) (s : State) :
    targetAddress i s = some (resolve m i.byte1 i.byte2 (fetchOpcode i.row.opcode s)).opd.ea := by
  rw [targetAddress, hm]

theorem rowSemantic_recorded (i : Instr) (s t : State) :
    Recorded (semanticAccesses (targetAddress i s) t.sp i.row.mnemonic) t (rowSemantic i s t) := by
  have hshape := acceptsVariant_eq_true i
  rcases hm : i.row.mode with _ | _ | m
  · have hmn : i.row.mnemonic ≠ .jsr := fun h => by
      rw [h, hm] at hshape
      exact absurd hshape (by decide)
    rw [rowSemantic_implied hm, targetAddress_bare (.inl hm)]
    exact impliedSemantic_recorded _ t hmn
  · have hnone : semanticAccesses none t.sp i.row.mnemonic = [] := by
      rw [hm] at hshape
      revert hshape
      cases i.row.mnemonic <;> first | exact fun _ => rfl | exact fun h => absurd h Bool.false_ne_true
    rw [rowSemantic_relative hm, targetAddress_bare (.inr hm), hnone]
    exact relativeSemantic_recorded hm _ t
  · have hmn : i.row.mnemonic ∉ [.pha, .php, .pla, .plp, .rts, .rti, .brk] := by
      rw [hm] at hshape
      revert hshape
      cases i.row.mnemonic <;> first | exact fun _ => by decide | exact fun h => absurd h Bool.false_ne_true
    rw [rowSemantic_memory hm, targetAddress_memory hm]
    exact memSemantic_recorded _ _ t hmn

/-- Settles O45: the reads are the resolver's, the rest what the row's semantic function or the gate records. -/
theorem busAccessCount : Obligations.BusAccessCount := by
  unfold Obligations.BusAccessCount
  intro i s t h
  obtain ⟨n, reads, u, rfl, -, ⟨hlength, hreads⟩, ⟨rfl, hgate⟩ | ⟨rfl, hcls, hoff⟩⟩ := exec_eq_next h
  · obtain ⟨events, htrace, -, haccess⟩ := rowSemantic_recorded i s (s.resolved i reads)
    refine ⟨reads, events, ?_, hlength, hreads, fun _ => haccess, fun hcls hoff => ?_⟩
    · rw [loadBudget_trace, htrace]
      rfl
    · exact absurd (hgate hcls) (by simp [gateOn, hoff])
  · refine ⟨reads, [.diagnostic i.row.opcode], by rw [loadBudget_trace]; rfl, hlength, hreads, ?_, fun _ _ => rfl⟩
    rintro (hlegal | hon)
    · rw [hlegal] at hcls
      exact nomatch hcls
    · simp [gateOn, hoff] at hon

theorem lastWrite_eq_none {b : Addr} {es : List PortEvent} (h : some (.write, b) ∉ es.map PortEvent.access) :
    lastWrite b es = none := by
  induction es with
  | nil => rfl
  | cons e es ih =>
    rw [List.map_cons, List.mem_cons, not_or] at h
    obtain ⟨he, hes⟩ := h
    cases e with
    | read a v => exact ih hes
    | diagnostic op => exact ih hes
    | write a v =>
      have hab : a ≠ b := fun hab => he (by rw [hab]; rfl)
      rw [lastWrite, if_neg hab, ih hes]

theorem Recorded.byteAt {ks : List (AccessKind × Addr)} {s u : State} (h : Recorded ks s u) (hwf : s.mem.wf = true)
    {b : Addr} (hb : (.write, b) ∉ ks) : u.byteAt b = s.byteAt b := by
  obtain ⟨es, -, hmem, haccess⟩ := h
  have hnone : lastWrite b es = none := by
    refine lastWrite_eq_none fun hmem => hb ?_
    rw [← List.mem_reverse, ← List.map_reverse, haccess] at hmem
    simpa using hmem
  rw [State.byteAt, hmem, replay_read hwf, hnone]
  rfl

theorem eq_target_of_write_mem {ea : Option Addr} {sp : Byte} {mn : Mnemonic} {b : Addr} (hmn : mn ∈ storesOperand)
    (h : (.write, b) ∈ semanticAccesses ea sp mn) : ea = some b := by
  cases ea <;> cases mn <;> simp_all [semanticAccesses, atTarget, storesOperand]

theorem write_not_mem_semanticAccesses {mn : Mnemonic} (hop : mn ∉ storesOperand) (hstack : mn ∉ storesStack)
    (ea : Option Addr) (sp : Byte) (b : Addr) : (.write, b) ∉ semanticAccesses ea sp mn := by
  cases ea <;> cases mn <;> simp_all [semanticAccesses, atTarget, storesOperand, storesStack]

/-- The trace grows by events whose writes, replayed, give the memory after the instruction. -/
theorem exec_replay {i : Instr} {s t : State} (h : exec i s = .next t) :
    ∃ accesses : List PortEvent, t.trace = accesses ++ s.trace ∧ t.mem = replay accesses s.mem := by
  obtain ⟨n, reads, u, rfl, -, ⟨-, hreads⟩, ⟨rfl, -⟩ | ⟨rfl, -⟩⟩ := exec_eq_next h
  · obtain ⟨es, htrace, hmem, -⟩ := rowSemantic_recorded i s (s.resolved i reads)
    refine ⟨es ++ (reads ++ [.read s.pc i.row.opcode]), ?_, ?_⟩
    · rw [loadBudget_trace, htrace]
      simp [State.resolved]
    · rw [loadBudget_mem, hmem, replay_append, replay_append, replay_reads hreads]
      rfl
  · refine ⟨.diagnostic i.row.opcode :: (reads ++ [.read s.pc i.row.opcode]), ?_, ?_⟩
    · simp [State.resolved]
    · rw [loadBudget_mem, replay, replay_append, replay_reads hreads]
      rfl

/-- A byte that no access of the row writes keeps its value, with the gate on or off. -/
theorem exec_byteAt_of_not_written {i : Instr} {s t : State} (h : exec i s = .next t) (hwf : s.mem.wf = true)
    {b : Addr} (hb : (.write, b) ∉ semanticAccesses (targetAddress i s) s.sp i.row.mnemonic) :
    t.byteAt b = s.byteAt b := by
  obtain ⟨n, reads, u, rfl, -, -, ⟨rfl, -⟩ | ⟨rfl, -⟩⟩ := exec_eq_next h
  · have hrow := (rowSemantic_recorded i s (s.resolved i reads)).byteAt hwf hb
    rw [State.byteAt, loadBudget_mem]
    exact hrow
  · rw [State.byteAt, loadBudget_mem]
    rfl

/-- With the gate off an illegal opcode stores nothing (R231). -/
theorem exec_byteAt_of_gateOff {i : Instr} {s t : State} (h : exec i s = .next t) (hcls : i.row.cls = .illegal)
    (hoff : ¬ gateOn s) (b : Addr) : t.byteAt b = s.byteAt b := by
  obtain ⟨n, reads, u, rfl, -, -, ⟨-, hgate⟩ | ⟨rfl, -⟩⟩ := exec_eq_next h
  · exact absurd (hgate hcls) hoff
  · rw [State.byteAt, loadBudget_mem]
    rfl

theorem cls_of_legalName {i : Instr} {mn : Mnemonic} (hmn : i.row.mnemonic = mn)
    (hname : mn.illegalName = false ∧ mn ≠ .nop ∧ mn ≠ .sbc) : i.row.cls = .legal := by
  have hcls := classMatches_eq_true i
  subst hmn
  simpa [Row.classMatches, hname] using hcls

/-- On a legal row the gate plays no part. -/
theorem exec_eq_next_of_legal {i : Instr} {s t : State} (h : exec i s = .next t) (hcls : i.row.cls = .legal) :
    ∃ n reads, t = loadBudget n (rowSemantic i s (s.resolved i reads)) := by
  obtain ⟨n, reads, u, ht, -, -, ⟨rfl, -⟩ | ⟨-, hillegal, -⟩⟩ := exec_eq_next h
  · exact ⟨n, reads, ht⟩
  · rw [hcls] at hillegal
    exact nomatch hillegal

/-- A store of the register `reg` leaves its value at the effective address (R213 to R215). -/
theorem exec_byteAt_of_store {i : Instr} {s t : State} {m : AddrMode} {mn : Mnemonic} {reg : State → Byte}
    (h : exec i s = .next t) (hwf : s.mem.wf = true) (hm : i.row.mode = .addr m) (hmn : i.row.mnemonic = mn)
    (hname : mn.illegalName = false ∧ mn ≠ .nop ∧ mn ≠ .sbc)
    (hstore : ∀ o u, memSemantic mn o u = memWrite o.ea (reg u) u) (hreg : ∀ reads, reg (s.resolved i reads) = reg s) :
    t.byteAt (resolve m i.byte1 i.byte2 (fetchOpcode i.row.opcode s)).opd.ea = reg s := by
  obtain ⟨n, reads, rfl⟩ := exec_eq_next_of_legal h (cls_of_legalName hmn hname)
  rw [State.byteAt, loadBudget_mem, rowSemantic_memory hm, hmn, hstore, hreg]
  exact (byteAt_memWrite hwf _ _ _).trans (if_pos rfl)

theorem mode_of_shape_implied {i : Instr} (h : i.row.mnemonic.shape = .implied) : i.row.mode = .implied := by
  have hshape := acceptsVariant_eq_true i
  rw [h] at hshape
  revert hshape
  rcases i.row.mode with _ | _ | m
  · exact fun _ => rfl
  · exact fun hno => absurd hno Bool.false_ne_true
  · exact fun hno => absurd hno Bool.false_ne_true

theorem exec_byteAt_of_pha {i : Instr} {s t : State} (h : exec i s = .next t) (hwf : s.mem.wf = true)
    (hmn : i.row.mnemonic = .pha) : t.byteAt (stackAddr s.sp) = s.a := by
  have hm : i.row.mode = .implied := mode_of_shape_implied (by rw [hmn]; rfl)
  obtain ⟨n, reads, rfl⟩ := exec_eq_next_of_legal h (cls_of_legalName hmn (by decide))
  rw [State.byteAt, loadBudget_mem, rowSemantic_implied hm, hmn]
  exact (byteAt_memWrite hwf _ _ _).trans (if_pos rfl)

/-- Settles O44: what is read back is a replay of the trace; a byte kept is one that no listed access writes. -/
theorem memoryFrame : Obligations.MemoryFrame := by
  unfold Obligations.MemoryFrame
  intro i s t h hwf
  have hkept {b : Addr} := exec_byteAt_of_not_written h hwf (b := b)
  refine ⟨?_, fun m hm => ⟨fun hmn => ?_, fun hmn => ?_, fun hmn => ?_⟩, exec_byteAt_of_pha h hwf,
    fun m hm hmn b hb => ?_, fun hmn b hb => ?_, fun hmn b hb hb1 => ?_, fun hmn b hb hb1 hb2 => ?_, ?_⟩
  · obtain ⟨accesses, htrace, hmem⟩ := exec_replay h
    exact ⟨accesses, htrace, fun b => by rw [State.byteAt, hmem, replay_read hwf]; rfl⟩
  · exact exec_byteAt_of_store h hwf hm hmn (by decide) (fun _ _ => rfl) (fun _ => rfl)
  · exact exec_byteAt_of_store h hwf hm hmn (by decide) (fun _ _ => rfl) (fun _ => rfl)
  · exact exec_byteAt_of_store h hwf hm hmn (by decide) (fun _ _ => rfl) (fun _ => rfl)
  · refine hkept fun hwrite => hb ?_
    have htarget := eq_target_of_write_mem hmn hwrite
    rw [targetAddress_memory hm, Option.some.injEq] at htarget
    exact htarget.symm
  · rcases hmn with hmn | hmn <;> exact hkept (by simp [hmn, semanticAccesses, hb])
  · exact hkept (by simp [hmn, semanticAccesses, hb, hb1])
  · exact hkept (by simp [hmn, semanticAccesses, hb, hb1, hb2])
  · rintro (⟨hop, hstack⟩ | ⟨hm, hop⟩ | ⟨hcls, hoff⟩) b
    · exact hkept (write_not_mem_semanticAccesses hop hstack _ _ b)
    · refine hkept fun hwrite => ?_
      have htarget := eq_target_of_write_mem hop hwrite
      rw [targetAddress_bare (.inl hm)] at htarget
      exact nomatch htarget
    · exact exec_byteAt_of_gateOff h hcls (by simp [gateOn, hoff]) b

end Sys2Proof.Machine
end

section
/-! Every step completes, and what a dispatch loads into `remaining_cycles` (50_execution_engine.md R272 to R276;
49_nop_illegal.md R252): from 2 to 8 cycles, or none where it halts the machine. The invariant of a tick, O54. -/

namespace Sys2Proof.Machine

theorem exec_completes (i : Instr) (s : State) : Completes (exec i s) := by
  rw [exec_eq_dispatchRow, dispatchRow]
  split <;> exact ⟨_, rfl⟩

/-- Only a branch loads cycles of its own (R150). -/
theorem rowSemantic_remainingCycles {i : Instr} (hm : i.row.mode ≠ .relative) (s t : State) :
    (rowSemantic i s t).remainingCycles = t.remainingCycles := by
  rcases hmode : i.row.mode with _ | _ | m
  · rw [rowSemantic_implied hmode]
    cases i.row.mnemonic
    case brk => rw [impliedSemantic, opBrk_frame]
    all_goals rfl
  · exact absurd hmode hm
  · rw [rowSemantic_memory hmode]
    cases i.row.mnemonic <;> rfl

theorem base_of_relative {i : Instr} (h : i.row.mode = .relative) : i.row.base = 2 := by
  cases i <;> first | rfl | exact nomatch h

theorem exec_of_relative {i : Instr} (hm : i.row.mode = .relative) (s : State) :
    ∃ c, exec i s = .next (loadBudget 2 (branch c i.byte1 (fetchOperand i.byte1 (fetchOpcode i.row.opcode s)))) := by
  obtain ⟨c, hc⟩ :=
    relativeSemantic_eq_branch hm i.byte1 (fetchOperand i.byte1 (fetchOpcode i.row.opcode s))
  refine ⟨c, ?_⟩
  rw [exec_eq_dispatchRow, dispatchRow, hm, relative_legal i hm, ← hc, base_of_relative hm]
  rfl

theorem branch_remainingCycles (c : Bool) (n : Byte) (s : State) :
    ∃ k ≤ 2, (branch c n s).remainingCycles = s.remainingCycles + BitVec.ofNat 8 k := by
  unfold branch
  split
  · have hcross : crossing s.pc (branchTarget s.pc n) ≤ 1 := by unfold crossing; split <;> decide
    exact ⟨_, Nat.add_le_add_left hcross 1, rfl⟩
  · exact ⟨0, by decide, (BitVec.add_zero _).symm⟩

/-- R94 and R274: a dispatch that leaves the machine running loads a budget of 2 to 8 cycles. -/
theorem exec_remainingCycles {i : Instr} {s t : State} (h : exec i s = .next t) (hrun : t.halted = false) :
    ∃ n, 2 ≤ n ∧ n ≤ 8 ∧ t.remainingCycles = s.remainingCycles + BitVec.ofNat 8 n := by
  by_cases hm : i.row.mode = .relative
  · obtain ⟨c, hc⟩ := exec_of_relative hm s
    rw [hc, Host.Outcome.next.injEq] at h
    subst h
    rw [loadBudget_halted] at hrun
    obtain ⟨k, hk, hcycles⟩ := branch_remainingCycles c i.byte1 (fetchOperand i.byte1 (fetchOpcode i.row.opcode s))
    refine ⟨k + 2, by omega, by omega, ?_⟩
    rw [loadBudget_running hrun, addCycles, hcycles, BitVec.ofNat_add, ← BitVec.add_assoc]
    rfl
  · obtain ⟨n, reads, u, rfl, ⟨hlow, hhigh⟩, -, hu⟩ := exec_eq_next h
    rw [loadBudget_halted] at hrun
    refine ⟨n, hlow, hhigh, ?_⟩
    rw [loadBudget_running hrun]
    obtain ⟨rfl, -⟩ | ⟨rfl, -⟩ := hu
    · rw [addCycles, rowSemantic_remainingCycles hm]
      rfl
    · rfl

/-- Nothing halts a running machine but KIL with the gate on. -/
theorem kil_of_exec_halts {i : Instr} {s t : State} (h : exec i s = .next t) (hs : s.halted = false)
    (ht : t.halted = true) : i.row.mnemonic = .kil ∧ gateOn s := by
  obtain ⟨-, -, -, -, -, hsame⟩ := sequencerFrame i s t h
  by_contra hkil
  rw [hsame hkil, hs] at ht
  exact nomatch ht

/-- R252: a dispatch that halts the machine loads nothing. -/
theorem exec_remainingCycles_of_halts {i : Instr} {s t : State} (h : exec i s = .next t) (hs : s.halted = false)
    (ht : t.halted = true) : t.remainingCycles = s.remainingCycles := by
  obtain ⟨hmn, -⟩ := kil_of_exec_halts h hs ht
  have hm : i.row.mode = .implied := mode_of_shape_implied (by rw [hmn]; rfl)
  obtain ⟨n, reads, u, rfl, -, -, hu⟩ := exec_eq_next h
  rw [loadBudget_halted] at ht
  rw [loadBudget, if_pos ht]
  obtain ⟨rfl, -⟩ | ⟨rfl, -⟩ := hu
  · exact rowSemantic_remainingCycles (by rw [hm]; nofun) s _
  · rfl

theorem exec_mem_wf {i : Instr} {s t : State} (h : exec i s = .next t) (hwf : s.mem.wf = true) : t.mem.wf = true := by
  obtain ⟨accesses, -, hmem⟩ := exec_replay h
  rw [hmem]
  exact replay_wf hwf accesses

/-- R28: only BRK writes the Break bits, and it sets them. -/
theorem exec_bit5 {i : Instr} {s t : State} (h : exec i s = .next t) (hbit : s.p.getLsbD 5 = true) :
    t.p.getLsbD 5 = true := by
  by_cases hmn : i.row.mnemonic = .brk
  · have hm : i.row.mode = .implied := mode_of_shape_implied (by rw [hmn]; rfl)
    obtain ⟨n, reads, rfl⟩ := exec_eq_next_of_legal h (cls_of_legalName hmn (by decide))
    rw [loadBudget_p, rowSemantic_implied hm, hmn, impliedSemantic, opBrk_eq, entered, BitVec.getLsbD_or]
    exact Bool.or_true _
  · obtain ⟨hflags, -⟩ := flagWriters i s t h
    have hbreak : t.p &&& 0x30#8 = s.p &&& 0x30#8 := hflags .brk (by simp [Flag.writers, hmn])
    have hfive : t.p.getLsbD 5 = s.p.getLsbD 5 := by simpa using congrArg (BitVec.getLsbD · 5) hbreak
    rw [hfive, hbit]

/-- The last part of a tick, at a counter of 1 to 8. -/
theorem endTick_inv {s : State} {n : Nat} (hmem : s.mem.wf = true) (hbit : s.p.getLsbD 5 = true)
    (hrun : s.halted = false) (hn : 1 ≤ n ∧ n ≤ 8) (hcycles : s.remainingCycles = BitVec.ofNat 8 n) :
    Inv (endTick s) where
  memory := hmem
  bit5 := hbit
  cycles := by
    show (s.remainingCycles - 1#8).toNat ≤ 8
    rw [hcycles]
    bv_omega
  halt h := absurd (hrun.symm.trans h) Bool.false_ne_true

theorem service_inv {s : State} (vector : Addr) {cost : Nat} (hmem : s.mem.wf = true) (hbit : s.p.getLsbD 5 = true)
    (hrun : s.halted = false) (hzero : s.remainingCycles = 0x00#8) (hcost : 1 ≤ cost ∧ cost ≤ 8) :
    Inv (endTick (service vector cost s)) := by
  refine endTick_inv (n := cost) ?_ ?_ ?_ hcost ?_
  · rw [service_mem]
    exact Memory.wf_write (Memory.wf_write (Memory.wf_write hmem _ (addr_lt_addressSpace _)) _
      (addr_lt_addressSpace _)) _ (addr_lt_addressSpace _)
  · rw [service_p, getLsbD_setFlag]
    exact hbit
  · rw [service_halted, hrun]
  · rw [service_remainingCycles, hzero, BitVec.zero_add]

theorem dispatch_inv {i : Instr} {s u : State} (hinv : Inv s) (hrun : s.halted = false)
    (hzero : s.remainingCycles = 0x00#8) (h : exec i s = .next u) : Inv (if u.halted then u else endTick u) := by
  have hmem := exec_mem_wf h hinv.memory
  have hbit := exec_bit5 h hinv.bit5
  split
  next hhalt =>
    have hcycles := (exec_remainingCycles_of_halts h hrun hhalt).trans hzero
    obtain ⟨-, hgate⟩ := kil_of_exec_halts h hrun hhalt
    obtain ⟨-, -, -, hstraps, -⟩ := sequencerFrame i s u h
    rw [gateOn, ← hstraps] at hgate
    exact ⟨hmem, hbit, by rw [hcycles]; decide, fun _ => ⟨hgate, hcycles⟩⟩
  next hstill =>
    rw [Bool.not_eq_true] at hstill
    obtain ⟨n, hlow, hhigh, hcycles⟩ := exec_remainingCycles h hstill
    rw [hzero, BitVec.zero_add] at hcycles
    exact endTick_inv hmem hbit hstill ⟨Nat.le_of_succ_le hlow, hhigh⟩ hcycles

/-- Settles O54: the five things a tick can do; only a dispatch can halt the machine. -/
theorem invariantKeptByStep : Obligations.InvariantKeptByStep := by
  unfold Obligations.InvariantKeptByStep
  intro s t hinv hstep
  obtain ⟨-, rfl⟩ | ⟨hrun, hpos, rfl⟩ | ⟨hrun, hzero, -, rfl⟩ | ⟨hrun, hzero, -, -, -, rfl⟩ | ⟨hdisp, u, hexec, rfl⟩ :=
    step_inversion hstep
  · exact hinv
  · have hcounter : s.remainingCycles = BitVec.ofNat 8 s.remainingCycles.toNat := by simp
    have hone : 1 ≤ s.remainingCycles.toNat := by bv_omega
    exact endTick_inv hinv.memory hinv.bit5 hrun ⟨hone, hinv.cycles⟩ hcounter
  · exact service_inv nmiVector hinv.memory hinv.bit5 hrun hzero (by decide)
  · exact service_inv irqVector hinv.memory hinv.bit5 hrun hzero (by decide)
  · exact dispatch_inv hinv hdisp.running hdisp.boundary hexec

theorem bootStatus_bit5 (b : BootStatus) : b.toByte.getLsbD 5 = true := by
  cases b <;> decide

theorem powerOn_inv (cfg : Config) (pc : Addr) {mem : Memory} (hmem : mem.wf = true) : Inv (powerOn cfg pc mem) :=
  ⟨hmem, bootStatus_bit5 cfg.bootStatus, Nat.zero_le 8, nofun⟩

/-- Settles O53: the counter is 0 at power-on and 8 at reset, and neither is halted. -/
theorem invariantAtReset : Obligations.InvariantAtReset := by
  unfold Obligations.InvariantAtReset
  refine ⟨⟨by decide, by decide, by decide, by decide⟩, fun cfg mem hmem => ?_⟩
  have hvector : Inv (powerOnFromVector cfg mem) := ⟨hmem, bootStatus_bit5 cfg.bootStatus, Nat.zero_le 8, nofun⟩
  exact ⟨powerOn_inv cfg _ hmem, fun pc => powerOn_inv cfg pc hmem, hvector⟩

theorem resetEvent_inv {s : State} (hmem : s.mem.wf = true) : Inv (resetEvent s) :=
  ⟨hmem, bootStatus_bit5 s.straps.bootStatus, Nat.le_refl 8, nofun⟩

theorem advance_inv {e : Input} {s t : State} (hinv : Inv s) (h : advance e s = .next t) : Inv t := by
  obtain ⟨hmem, hbit, hcycles, hhalt⟩ := hinv
  cases e with
  | tick => exact invariantKeptByStep s t ⟨hmem, hbit, hcycles, hhalt⟩ h
  | reset =>
    cases h
    exact resetEvent_inv hmem
  | irqRequest | nmiRequest | loadPc v =>
    cases h
    exact ⟨hmem, hbit, hcycles, hhalt⟩

/-- Settles O55: induction over the list, each event keeping the invariant. -/
theorem invariantKeptByInputs : Obligations.InvariantKeptByInputs := by
  unfold Obligations.InvariantKeptByInputs
  intro es
  induction es with
  | nil =>
    intro s t hinv h
    cases h
    exact hinv
  | cons e es ih =>
    intro s t hinv h
    rw [runInputs] at h
    cases hadvance : advance e s with
    | next u =>
      rw [hadvance] at h
      exact ih u t (advance_inv hinv hadvance) h
    | fault f => exact nomatch f
    | refused r =>
      rw [hadvance] at h
      exact nomatch h

end Sys2Proof.Machine
end

section
/-! One tick forwards (50_execution_engine.md R271, R275, R276): what each kind of tick answers, and the ticks that only
count down. The obligations O46, O47 and O56 to O59. -/

namespace Sys2Proof.Machine

theorem step_of_halted {s : State} (h : s.halted = true) : step s = .next s := by
  rw [step, if_pos h]

theorem step_of_counting {s : State} (hrun : s.halted = false) (hpos : s.remainingCycles ≠ 0x00#8) :
    step s = .next (endTick s) := by
  simp [step, hrun, hpos]

theorem step_of_dispatches {s : State} (h : Dispatches s) : step s = afterDispatch (exec (fetchedInstr s) s) := by
  obtain ⟨hrun, hzero, hnmi, hirq⟩ := h
  rw [step_eq_boundaryTick hrun hzero]
  rcases hirq with hirq | hmasked
  · simp [boundaryTick, hnmi, hirq]
  · simp [boundaryTick, hnmi, hmasked]

theorem step_of_exec {s t : State} (h : Dispatches s) (hexec : exec (fetchedInstr s) s = .next t) :
    step s = .next (if t.halted then t else endTick t) := by
  rw [step_of_dispatches h, hexec]
  rfl

/-- Settles O46: the decoder's instruction is the one the tick fetches. -/
theorem stepRunsDecoded : Obligations.StepRunsDecoded := by
  unfold Obligations.StepRunsDecoded
  intro s i rest hdisp hdecode
  rw [decode_three_bytes, Except.ok.injEq, Prod.mk.injEq] at hdecode
  obtain ⟨hi, -⟩ := hdecode
  obtain ⟨t, ht⟩ := exec_completes i s
  have hfetched : exec (fetchedInstr s) s = .next t := by rw [fetchedInstr, hi, ht]
  exact ⟨t, ht, step_of_exec hdisp hfetched⟩

/-- Settles O47: the end of a tick is all such a tick does. -/
theorem countdownTick : Obligations.CountdownTick := by
  unfold Obligations.CountdownTick
  intro s hrun hpos
  exact step_of_counting hrun hpos

theorem runInputs_cons {e : Input} {s t : State} (h : advance e s = .next t) (es : List Input) :
    runInputs (e :: es) s = runInputs es t := by
  rw [runInputs, h]

/-- As many ticks as the counter holds, or fewer, only count. -/
theorem runInputs_replicate_tick {k : Nat} {s : State} (hrun : s.halted = false) (hk : k ≤ s.remainingCycles.toNat) :
    runInputs (List.replicate k .tick) s =
      .next { s with
        remainingCycles := s.remainingCycles - BitVec.ofNat 8 k
        totalCycles := s.totalCycles + k } := by
  induction k generalizing s with
  | zero => simp [runInputs]
  | succ k ih =>
    have hpos : s.remainingCycles ≠ 0x00#8 := by bv_omega
    have hfirst : advance .tick s = .next (endTick s) := step_of_counting hrun hpos
    have hleft : (s.remainingCycles - 1#8) - BitVec.ofNat 8 k = s.remainingCycles - BitVec.ofNat 8 (k + 1) := by
      bv_omega
    have htotal : s.totalCycles + 1 + k = s.totalCycles + (k + 1) := by omega
    have hrest : k ≤ (endTick s).remainingCycles.toNat := by
      show k ≤ (s.remainingCycles - 1#8).toNat
      bv_omega
    rw [List.replicate_succ, runInputs_cons hfirst, ih (s := endTick s) hrun hrest]
    simp only [endTick, hleft, htotal]

/-- Settles O56: the first tick leaves the dispatch's state less one cycle, and the others only count. -/
theorem ticksPerInstruction : Obligations.TicksPerInstruction := by
  unfold Obligations.TicksPerInstruction
  intro s t hdisp hexec hrun
  obtain ⟨n, hlow, hhigh, hcycles⟩ := exec_remainingCycles hexec hrun
  obtain ⟨-, -, htotal, -⟩ := sequencerFrame _ s t hexec
  rw [hdisp.boundary, BitVec.zero_add] at hcycles
  refine ⟨n, hlow, hhigh, hcycles, fun k hpos hk => ?_⟩
  obtain ⟨j, rfl⟩ := Nat.exists_eq_add_one_of_ne_zero (Nat.ne_of_gt hpos)
  have hfirst : advance .tick s = .next (endTick t) := by
    rw [advance, step_of_exec hdisp hexec, hrun]
    rfl
  have hrest : j ≤ (endTick t).remainingCycles.toNat := by
    show j ≤ (t.remainingCycles - 1#8).toNat
    rw [hcycles]
    bv_omega
  have hleft : t.remainingCycles - 1#8 - BitVec.ofNat 8 j = BitVec.ofNat 8 (n - (j + 1)) := by
    rw [hcycles]
    bv_omega
  have hcount : t.totalCycles + 1 + j = s.totalCycles + (j + 1) := by omega
  rw [List.replicate_succ, runInputs_cons hfirst, runInputs_replicate_tick (s := endTick t) hrun hrest]
  simp only [endTick, hleft, hcount]

/-- Settles O57: the event in one update, then a countdown from 8. The obligation's own name is taken by the event. -/
theorem resetInputEvent : Obligations.ResetEvent := by
  unfold Obligations.ResetEvent
  constructor
  · intro s lo hi t
    have hticks := runInputs_replicate_tick (k := 8) (s := t) rfl (Nat.le_refl 8)
    have hzero : t.remainingCycles - BitVec.ofNat 8 8 = 0x00#8 := BitVec.sub_self 8#8
    rw [hzero] at hticks
    exact ⟨rfl, hticks⟩
  · rfl

/-- Settles O58: each event writes one field. -/
theorem requestsAndPcLoad : Obligations.RequestsAndPcLoad := by
  unfold Obligations.RequestsAndPcLoad
  exact fun s => ⟨rfl, rfl, rfl, rfl, fun v => rfl⟩

/-- Settles O59: each form in one update. -/
theorem powerOnForms : Obligations.PowerOnForms := by
  unfold Obligations.PowerOnForms
  exact fun cfg mem => ⟨rfl, fun pc => rfl, rfl⟩

end Sys2Proof.Machine
end

section
/-! Whole runs (50_execution_engine.md R271, R278, R282; 60_exceptions.md R290 to R295; 10_state.md R33): every event is
answered, a halted machine waits for a reset, only a service clears a latch, and nothing reads `total_cycles`. The
obligations O48, O50, O52 and O60. -/

namespace Sys2Proof.Machine

theorem step_completes (s : State) : Completes (step s) := by
  obtain ⟨t, hexec⟩ := exec_completes (fetchedInstr s) s
  unfold step boundaryTick
  split
  · exact ⟨_, rfl⟩
  split
  · split
    · exact ⟨_, rfl⟩
    split
    · exact ⟨_, rfl⟩
    · exact ⟨_, by rw [hexec]; rfl⟩
  · exact ⟨_, rfl⟩

theorem advance_completes (e : Input) (s : State) : Completes (advance e s) := by
  cases e with
  | tick => exact step_completes s
  | irqRequest | nmiRequest | reset | loadPc v => exact ⟨_, rfl⟩

theorem runInputs_completes (es : List Input) (s : State) : Completes (runInputs es s) := by
  induction es generalizing s with
  | nil => exact ⟨s, rfl⟩
  | cons e es ih =>
    obtain ⟨t, ht⟩ := advance_completes e s
    rw [runInputs_cons ht]
    exact ih t

/-- R278: with fuel for every cycle left, the drain ends at a boundary or halted. -/
theorem drain_completes {fuel : Nat} {s : State} (hfuel : s.remainingCycles.toNat ≤ fuel) :
    ∃ t, drain fuel s = .next t ∧ (t.halted = true ∨ t.remainingCycles = 0x00#8) := by
  induction fuel generalizing s with
  | zero => exact ⟨s, rfl, .inr (by bv_omega)⟩
  | succ fuel ih =>
    rw [drain]
    split
    next hzero => exact ⟨s, rfl, .inr hzero⟩
    next hpos =>
      split
      next hhalt => exact ⟨s, rfl, .inl hhalt⟩
      next hrun =>
        rw [Bool.not_eq_true] at hrun
        rw [step_of_counting hrun hpos]
        refine ih (s := endTick s) ?_
        show (s.remainingCycles - 1#8).toNat ≤ fuel
        bv_omega

/-- Settles O52: the four operations in turn; 256 is more fuel than an 8-bit counter can need. -/
theorem neverStops : Obligations.NeverStops := by
  unfold Obligations.NeverStops
  refine ⟨exec_completes, step_completes, runInputs_completes, fun s => ?_⟩
  obtain ⟨t, ht⟩ := step_completes s
  rw [executeInstruction, ht]
  exact drain_completes (Nat.le_of_lt t.remainingCycles.isLt)

/-- The fields no event but a reset writes in a halted machine, as O48 lists them. -/
def State.frozen (s : State) : Byte × Byte × Byte × Byte × Byte × Memory × Config × Byte × Nat × List PortEvent :=
  (s.a, s.x, s.y, s.sp, s.p, s.mem, s.straps, s.remainingCycles, s.totalCycles, s.trace)

theorem advance_of_halted {e : Input} {s : State} (hhalt : s.halted = true) (he : e ≠ .reset) :
    ∃ t, advance e s = .next t ∧ t.halted = true ∧ t.frozen = s.frozen ∧ ((∀ v, e ≠ .loadPc v) → t.pc = s.pc) := by
  cases e with
  | tick => exact ⟨s, step_of_halted hhalt, hhalt, rfl, fun _ => rfl⟩
  | irqRequest | nmiRequest => exact ⟨_, rfl, hhalt, rfl, fun _ => rfl⟩
  | reset => exact absurd rfl he
  | loadPc v => exact ⟨_, rfl, hhalt, rfl, fun h => absurd rfl (h v)⟩

theorem runInputs_of_halted {es : List Input} {s : State} (hhalt : s.halted = true) (hes : .reset ∉ es) :
    ∃ t, runInputs es s = .next t ∧ t.halted = true ∧ t.frozen = s.frozen ∧
      ((∀ v, Input.loadPc v ∉ es) → t.pc = s.pc) := by
  induction es generalizing s with
  | nil => exact ⟨s, rfl, hhalt, rfl, fun _ => rfl⟩
  | cons e es ih =>
    rw [List.mem_cons, not_or] at hes
    obtain ⟨he, hrest⟩ := hes
    obtain ⟨u, hu, huhalt, hufrozen, hupc⟩ := advance_of_halted hhalt (Ne.symm he)
    obtain ⟨t, ht, hthalt, htfrozen, htpc⟩ := ih huhalt hrest
    refine ⟨t, by rw [runInputs_cons hu, ht], hthalt, htfrozen.trans hufrozen, fun hload => ?_⟩
    rw [htpc fun v hv => hload v (List.mem_cons_of_mem e hv), hupc fun v hv => hload v (hv ▸ List.mem_cons_self)]

/-- Settles O48: no event of the list moves a frozen field, and the reset event clears `halted`. -/
theorem haltIsTerminal : Obligations.HaltIsTerminal := by
  unfold Obligations.HaltIsTerminal
  intro s hhalt
  exact ⟨step_of_halted hhalt, fun es hes => runInputs_of_halted hhalt hes, _, rfl, rfl⟩

theorem dispatch_latches {i : Instr} {s u : State} (h : exec i s = .next u) :
    (if u.halted then u else endTick u).pendingNmi = s.pendingNmi ∧
      (if u.halted then u else endTick u).pendingIrq = s.pendingIrq := by
  obtain ⟨hnmi, hirq, -⟩ := sequencerFrame i s u h
  split
  · exact ⟨hnmi, hirq⟩
  · exact ⟨hnmi, hirq⟩

/-- Settles O50: of the five things a tick can do, only a service writes a latch, its own. -/
theorem maskedIrqWaits : Obligations.MaskedIrqWaits := by
  unfold Obligations.MaskedIrqWaits
  intro s t
  constructor
  · intro hstep
    obtain ⟨-, rfl⟩ | ⟨-, -, rfl⟩ | ⟨hrun, hzero, hnmi, rfl⟩ | ⟨hrun, hzero, hnmi, hirq, hclear, rfl⟩ |
      ⟨hdisp, u, hexec, rfl⟩ := step_inversion hstep
    · exact ⟨fun _ => rfl, fun h => absurd rfl h, fun h => absurd rfl h⟩
    · exact ⟨fun _ => rfl, fun h => absurd rfl h, fun h => absurd rfl h⟩
    · have hkept : (endTick (service nmiVector 8 { s with pendingNmi := false })).pendingIrq = s.pendingIrq :=
        service_pendingIrq nmiVector 8 { s with pendingNmi := false }
      exact ⟨fun _ => hkept, fun h => absurd hkept h, fun _ => ⟨hnmi, hrun, hzero⟩⟩
    · have hkept : (endTick (service irqVector 7 { s with pendingIrq := false })).pendingNmi = s.pendingNmi :=
        service_pendingNmi irqVector 7 { s with pendingIrq := false }
      rw [getFlag_interruptDisable] at hclear
      exact ⟨fun hset => absurd (hset.symm.trans hclear) nofun, fun _ => ⟨hirq, hrun, hzero, hnmi, hclear⟩,
        fun h => absurd hkept h⟩
    · obtain ⟨hnmi, hirq⟩ := dispatch_latches hexec
      exact ⟨fun _ => hirq, fun h => absurd hirq h, fun h => absurd hnmi h⟩
  · intro h
    cases h
    exact ⟨rfl, rfl⟩

end Sys2Proof.Machine
end

section
/-! `total_cycles` is an output only (10_state.md R33): every operation of a dispatch commutes with writing it, and a
tick adds 0 or 1 to it. The obligation O60. -/

namespace Sys2Proof.Machine

/-- The state with another value in `total_cycles`. -/
def State.withTotal (n : Nat) (s : State) : State := { s with totalCycles := n }

theorem memSemantic_withTotal (mn : Mnemonic) (o : MemOperand) (n : Nat) (s : State) :
    memSemantic mn o (s.withTotal n) = (memSemantic mn o s).withTotal n := by
  cases mn <;> rfl

theorem impliedSemantic_withTotal (mn : Mnemonic) (n : Nat) (s : State) :
    impliedSemantic mn () (s.withTotal n) = (impliedSemantic mn () s).withTotal n := by
  cases mn
  case brk =>
    rw [impliedSemantic, opBrk_eq, opBrk_eq]
    rfl
  all_goals rfl

theorem branch_withTotal (c : Bool) (b : Byte) (n : Nat) (s : State) :
    branch c b (s.withTotal n) = (branch c b s).withTotal n := by
  cases c <;> rfl

theorem relativeSemantic_withTotal (mn : Mnemonic) (b : Byte) (n : Nat) (s : State) :
    relativeSemantic mn b (s.withTotal n) = (relativeSemantic mn b s).withTotal n := by
  cases mn
  case bcc | bcs | beq | bne | bmi | bpl | bvc | bvs => exact branch_withTotal _ b n s
  all_goals rfl

theorem resolve_withTotal (m : AddrMode) (b1 b2 : Byte) (n : Nat) (s : State) :
    resolve m b1 b2 (s.withTotal n) =
      { resolve m b1 b2 s with state := (resolve m b1 b2 s).state.withTotal n } := by
  cases m <;> rfl

theorem loadBudget_withTotal (k n : Nat) (s : State) :
    loadBudget k (s.withTotal n) = (loadBudget k s).withTotal n := by
  unfold loadBudget
  change (if s.halted then _ else _) = _
  split <;> rfl

/-- What a dispatch does with a resolver and a semantic function, both blind to `total_cycles`. -/
theorem dispatchLegal_withTotal {δ : Type} {op : Byte} {base n : Nat} {resolver : State → Resolved δ}
    {semantic : δ → State → State} {s t : State}
    (hres : ∀ s, resolver (s.withTotal n) = { resolver s with state := (resolver s).state.withTotal n })
    (hsem : ∀ d s, semantic d (s.withTotal n) = (semantic d s).withTotal n)
    (h : dispatchLegal op base resolver semantic s = .next t) :
    dispatchLegal op base resolver semantic (s.withTotal n) = .next (t.withTotal n) := by
  cases h
  have hfetch : fetchOpcode op (s.withTotal n) = (fetchOpcode op s).withTotal n := rfl
  simp only [dispatchLegal, hfetch, hres, hsem, loadBudget_withTotal]

theorem dispatchIllegal_withTotal {δ : Type} {op : Byte} {base n : Nat} {resolver : State → Resolved δ}
    {semantic : δ → State → State} {s t : State}
    (hres : ∀ s, resolver (s.withTotal n) = { resolver s with state := (resolver s).state.withTotal n })
    (hsem : ∀ d s, semantic d (s.withTotal n) = (semantic d s).withTotal n)
    (h : dispatchIllegal op base resolver semantic s = .next t) :
    dispatchIllegal op base resolver semantic (s.withTotal n) = .next (t.withTotal n) := by
  cases h
  have hfetch : fetchOpcode op (s.withTotal n) = (fetchOpcode op s).withTotal n := rfl
  have hgate (v : State) : (v.withTotal n).straps = v.straps := rfl
  have hnote (v : State) : record (.diagnostic op) (v.withTotal n) = (record (.diagnostic op) v).withTotal n := rfl
  simp only [dispatchIllegal, hfetch, hres, hsem, hgate, hnote, ← apply_ite (State.withTotal n), loadBudget_withTotal]

theorem exec_withTotal {i : Instr} {s t : State} (h : exec i s = .next t) (n : Nat) :
    exec i (s.withTotal n) = .next (t.withTotal n) := by
  rw [exec_eq_dispatchRow] at h ⊢
  unfold dispatchRow at h ⊢
  have himplied (s : State) : implied (s.withTotal n) = { implied s with state := (implied s).state.withTotal n } := rfl
  have hrelative (s : State) : relative i.byte1 (s.withTotal n) =
      { relative i.byte1 s with state := (relative i.byte1 s).state.withTotal n } := rfl
  split at h
  · exact dispatchLegal_withTotal himplied (fun _ => impliedSemantic_withTotal _ n) h
  · exact dispatchIllegal_withTotal himplied (fun _ => impliedSemantic_withTotal _ n) h
  · exact dispatchLegal_withTotal hrelative (fun d => relativeSemantic_withTotal _ d n) h
  · exact dispatchIllegal_withTotal hrelative (fun d => relativeSemantic_withTotal _ d n) h
  · exact dispatchLegal_withTotal (resolve_withTotal _ _ _ n) (fun d => memSemantic_withTotal _ d n) h
  · exact dispatchIllegal_withTotal (resolve_withTotal _ _ _ n) (fun d => memSemantic_withTotal _ d n) h

theorem service_withTotal (vector : Addr) (cost n : Nat) (s : State) :
    service vector cost (s.withTotal n) = (service vector cost s).withTotal n := by
  rw [service_eq_entered, service_eq_entered]
  rfl

theorem Dispatches.withTotal {s : State} (h : Dispatches s) (n : Nat) : Dispatches (s.withTotal n) :=
  ⟨h.running, h.boundary, h.noNmi, h.noIrq⟩

/-- What `s` and `t` say of a tick from one to the other: it added 0 and `t` is halted, or it added 1 and `t` runs, and
it does the same whatever `total_cycles` holds. -/
def TickTotal (s t : State) : Prop :=
  ∃ d, t.totalCycles = s.totalCycles + d ∧ (t.halted = true → d = 0) ∧ (t.halted = false → d = 1) ∧
    ∀ n, step (s.withTotal n) = .next (t.withTotal (n + d))

theorem tickTotal_of_halted {s : State} (hhalt : s.halted = true) : TickTotal s s :=
  ⟨0, rfl, fun _ => rfl, fun hrun => absurd (hrun.symm.trans hhalt) nofun, fun _ => step_of_halted hhalt⟩

/-- A tick whose last part is the end of the tick counts itself. -/
theorem tickTotal_endTick {s u : State} (hrun : u.halted = false) (htotal : u.totalCycles = s.totalCycles)
    (hstep : ∀ n, step (s.withTotal n) = .next (endTick (u.withTotal n))) : TickTotal s (endTick u) := by
  have hstill : (endTick u).halted = false := hrun
  exact ⟨1, congrArg (· + 1) htotal, fun hhalt => absurd (hstill.symm.trans hhalt) nofun, fun _ => rfl, hstep⟩

theorem tickTotal_of_step {s t : State} (h : step s = .next t) : TickTotal s t := by
  obtain ⟨hhalt, rfl⟩ | ⟨hrun, hpos, rfl⟩ | ⟨hrun, hzero, hnmi, rfl⟩ | ⟨hrun, hzero, hnmi, hirq, hclear, rfl⟩ |
    ⟨hdisp, u, hexec, rfl⟩ := step_inversion h
  · exact tickTotal_of_halted hhalt
  · exact tickTotal_endTick hrun rfl fun n => step_of_counting (s := s.withTotal n) hrun hpos
  · refine tickTotal_endTick ((service_halted _ _ _).trans hrun) (service_totalCycles _ _ _) fun n => ?_
    rw [← service_withTotal, step_eq_boundaryTick (s := s.withTotal n) hrun hzero,
      boundaryTick_of_pendingNmi (s := s.withTotal n) hnmi]
    rfl
  · refine tickTotal_endTick ((service_halted _ _ _).trans hrun) (service_totalCycles _ _ _) fun n => ?_
    rw [← service_withTotal, step_eq_boundaryTick (s := s.withTotal n) hrun hzero,
      boundaryTick_of_pendingIrq (s := s.withTotal n) hnmi hirq hclear]
    rfl
  · obtain ⟨-, -, htotal, -⟩ := sequencerFrame _ s u hexec
    have hstep (n : Nat) := step_of_exec (hdisp.withTotal n) (exec_withTotal hexec n)
    by_cases hhalt : u.halted = true
    · have hnone (n : Nat) : step (s.withTotal n) = .next (u.withTotal n) :=
        (hstep n).trans (congrArg _ (if_pos hhalt))
      rw [if_pos hhalt]
      exact ⟨0, htotal, fun _ => rfl, fun hrun => absurd (hrun.symm.trans hhalt) nofun, hnone⟩
    · rw [if_neg hhalt]
      exact tickTotal_endTick (Bool.eq_false_iff.mpr hhalt) htotal fun n => (hstep n).trans (congrArg _ (if_neg hhalt))

/-- Settles O60: the two clauses of the obligation, and the same tick with another value in `total_cycles`. -/
theorem totalCyclesUnused : Obligations.TotalCyclesUnused := by
  unfold Obligations.TotalCyclesUnused
  intro s t n h
  obtain ⟨d, htotal, hnone, hone, hstep⟩ := tickTotal_of_step h
  refine ⟨fun hrun => ?_, fun hhalt => ?_, d, htotal, hstep n⟩
  · rw [htotal, hone hrun]
  · rw [htotal, hnone hhalt, Nat.add_zero]

end Sys2Proof.Machine
end

section
/-! ADC and SBC (41_arithmetic.md R122, R123), whole groups of illegal rows with the gate on (49_nop_illegal.md R231,
the counterparts of `runsMemory_of_legal` and `runsImplied_of_legal`), and the branches (44_branch.md R150 to R158). The
obligations O15, O16 and O22. -/

namespace Sys2Proof.Machine

/-- The adder as a claim names it: decimal where both conditions of R121 hold. -/
theorem adder_eq (cfg : Config) (a m : Byte) (sub : Bool) (p : Byte) :
    adder cfg a m sub p =
      if cfg.decimalModeEnabled = true ∧ getFlag .decimal p = true
      then addCoreDecimal a m (getFlag .carry p) sub p
      else addCore a m (getFlag .carry p) p := by
  simp only [adder, Bool.and_eq_true]

theorem opAdc_eq (o : MemOperand) (s : State) :
    opAdc o s =
      { afterRead o s with
        a := (adder s.straps s.a (o.byte s) false s.p).value
        p := (adder s.straps s.a (o.byte s) false s.p).status } := rfl

theorem opSbc_eq (o : MemOperand) (s : State) :
    opSbc o s =
      { afterRead o s with
        a := (adder s.straps s.a (o.byte s ^^^ 0xFF#8) true s.p).value
        p := (adder s.straps s.a (o.byte s ^^^ 0xFF#8) true s.p).status } := rfl

/-- Settles O15: one group of rows; the adder's choice is the obligation's. -/
theorem addWithCarry : Obligations.AddWithCarry := by
  unfold Obligations.AddWithCarry
  refine runsMemory_of_legal anyState .adc (by decide) fun o s => ?_
  rw [← adder_eq]
  exact opAdc_eq o s

/-- With the gate on an illegal row runs as a legal one does. -/
theorem runsMemory_of_illegal {forms : List Form} {premise : State → Prop} {effect : MemOperand → State → State}
    (mn : Mnemonic) (hgate : ∀ s, premise s → gateOn s)
    (hrows : ∀ f ∈ forms, RowAt f.opcode ⟨f.opcode, mn, .addr f.mode, f.base, .illegal⟩)
    (heffect : ∀ f ∈ forms, ∀ i s, premise s →
      memSemantic mn (f.resolved i s).opd (f.resolved i s).state = effect (f.resolved i s).opd (f.resolved i s).state) :
    RunsMemory forms premise effect := by
  intro f hf i s hop hrun hpremise
  have hstill : (memSemantic mn (f.resolved i s).opd (f.resolved i s).state).halted = false := by simp [hrun]
  rw [exec_illegal_memory hop (hrows f hf) (hgate s hpremise), loadBudget_running hstill, heffect f hf i s hpremise]

theorem runsMemory_of_gateOn {forms : List Form} {effect : MemOperand → State → State} (mn : Mnemonic)
    (hrows : ∀ f ∈ forms, RowAt f.opcode ⟨f.opcode, mn, .addr f.mode, f.base, .illegal⟩)
    (heffect : ∀ o s, memSemantic mn o s = effect o s) : RunsMemory forms gateOn effect :=
  runsMemory_of_illegal mn (fun _ h => h) hrows fun _ _ _ _ _ => heffect _ _

theorem runsImplied_of_gateOn {forms : List BareForm} {effect : State → State} (mn : Mnemonic) (hmn : mn ≠ .kil)
    (hrows : ∀ f ∈ forms, RowAt f.opcode ⟨f.opcode, mn, .implied, f.base, .illegal⟩)
    (heffect : ∀ s, impliedSemantic mn () s = effect s) : RunsImplied forms gateOn effect := by
  intro f hf i s hop hrun hgate
  have hstill : (impliedSemantic mn () (fetchOpcode f.opcode s)).halted = false := by
    rw [impliedSemantic_halted hmn, fetchOpcode_halted, hrun]
  rw [exec_illegal_implied hop (hrows f hf) hgate, loadBudget_running hstill, heffect]

/-- Settles O16: the eight legal rows and 0xEB share one semantic function (R233). -/
theorem subtractWithBorrow : Obligations.SubtractWithBorrow := by
  unfold Obligations.SubtractWithBorrow
  intro effect
  have heffect (o : MemOperand) (s : State) : opSbc o s = effect o s := by
    simp only [effect, ← adder_eq]
    exact opSbc_eq o s
  exact ⟨runsMemory_of_legal anyState .sbc (by decide) heffect, runsMemory_of_gateOn .sbc (by decide) heffect⟩

end Sys2Proof.Machine
end

section
/-! The eight branches (44_branch.md R150 to R158): the target as a signed sum, the cycles as 2, 3 or 4, and the
obligation O22. -/

namespace Sys2Proof.Machine

theorem getFlag_eq_getLsbD {f : Flag} {k : Nat} (hmask : flagMask f = BitVec.twoPow 8 k) (p : Byte) :
    getFlag f p = p.getLsbD k := by
  have hmask_ne : flagMask f ≠ 0x00#8 := by cases f <;> decide
  rw [hmask] at hmask_ne
  rw [Bool.eq_iff_iff, getFlag_iff, hmask, BitVec.and_twoPow]
  cases p.getLsbD k <;> simp [hmask_ne]

theorem branchTarget_eq_ofInt (base : Addr) (n : Byte) :
    branchTarget base n = BitVec.ofInt 16 (base.toNat + n.toInt) := by
  rw [branchTarget, sext16, BitVec.signExtend, BitVec.ofInt_add, BitVec.ofInt_natCast, BitVec.ofNat_toNat,
    BitVec.setWidth_eq]

theorem branch_taken (n : Byte) (s : State) :
    branch true n s =
      addCycles (branchExtra s.pc (branchTarget s.pc n)) { s with pc := branchTarget s.pc n } := rfl

/-- R150: the budget of 2, and 1 or 2 cycles more when the branch is taken. -/
theorem ofNat_branchExtra (base target : Addr) :
    BitVec.ofNat 8 (branchExtra base target) + 2#8 = if highByte base = highByte target then 3#8 else 4#8 := by
  unfold branchExtra crossing
  split <;> rfl

theorem runsBranch_of_relative {op : Byte} {cond : Byte → Bool} (mn : Mnemonic)
    (hrow : RowAt op ⟨op, mn, .relative, 2, .legal⟩)
    (hsem : ∀ n s, relativeSemantic mn n s = branch (cond s.p) n s) : RunsBranch op cond := by
  intro i s hop hrun b target reads
  have hfetched : fetchOperand i.byte1 (fetchOpcode op s) = { s with pc := b, trace := reads } := by
    simp only [fetchOperand, fetchOpcode, addr_add_one_add_one, b, reads]
  have htarget : branchTarget b i.byte1 = target := branchTarget_eq_ofInt b i.byte1
  have hstill : (branch (cond s.p) i.byte1 { s with pc := b, trace := reads }).halted = false := by
    rw [branch_frame, hrun]
  have hcycles := ofNat_branchExtra b target
  rw [exec_relative hop hrow, hsem, hfetched, loadBudget_running hstill]
  cases hcond : cond s.p
  · rfl
  · rw [branch_taken, htarget, if_pos rfl, ← hcycles, ← BitVec.add_assoc]
    rfl

/-- Settles O22: eight rows, each with its flag and polarity (R151 to R158). -/
theorem branches : Obligations.Branches := by
  unfold Obligations.Branches
  have hc := getFlag_eq_getLsbD (f := .carry) (k := 0) (by decide)
  have hz := getFlag_eq_getLsbD (f := .zero) (k := 1) (by decide)
  have hn := getFlag_eq_getLsbD (f := .negative) (k := 7) (by decide)
  have hv := getFlag_eq_getLsbD (f := .overflow) (k := 6) (by decide)
  refine ⟨?_, ?_, ?_, ?_, ?_, ?_, ?_, ?_⟩
  · exact runsBranch_of_relative .bcc (by decide) fun _ s => by rw [← hc]; rfl
  · exact runsBranch_of_relative .bcs (by decide) fun _ s => by rw [← hc]; rfl
  · exact runsBranch_of_relative .beq (by decide) fun _ s => by rw [← hz]; rfl
  · exact runsBranch_of_relative .bne (by decide) fun _ s => by rw [← hz]; rfl
  · exact runsBranch_of_relative .bmi (by decide) fun _ s => by rw [← hn]; rfl
  · exact runsBranch_of_relative .bpl (by decide) fun _ s => by rw [← hn]; rfl
  · exact runsBranch_of_relative .bvc (by decide) fun _ s => by rw [← hv]; rfl
  · exact runsBranch_of_relative .bvs (by decide) fun _ s => by rw [← hv]; rfl

end Sys2Proof.Machine
end

section
/-! The illegal opcodes and NOP (49_nop_illegal.md R230 to R252) with the gate on, and all 105 of them with the gate
off: one equation for each semantic function that is no composite, and the obligations O34, O35 and O37 to O40. -/

namespace Sys2Proof.Machine

/-- Settles O34: 0xEA, then the undocumented rows without and with an operand. -/
theorem noOperation : Obligations.NoOperation := by
  unfold Obligations.NoOperation
  refine ⟨?_, ?_, ?_⟩
  · exact runsImplied_of_legal anyState .nop nofun (by decide) fun _ => rfl
  · exact runsImplied_of_gateOn .nop nofun (by decide) fun _ => rfl
  · exact runsMemory_of_gateOn .nop (by decide) fun _ _ => rfl

theorem opSax_eq (o : MemOperand) (s : State) : opSax o s = afterWrite o (s.a &&& s.x) s := rfl

/-- Z and N depend on the byte alone, so setting them from it twice is setting them once. -/
theorem setZN_setZN (v w p : Byte) : setZN v (setZN w p) = setZN v p := by
  refine BitVec.eq_of_getLsbD_eq fun k _ => ?_
  simp only [getLsbD_setZN]
  split_ifs <;> rfl

/-- R239: LDA, then LDX; the second read answers the same byte. -/
theorem opLax_eq (o : MemOperand) (s : State) :
    opLax o s =
      { afterRead o (afterRead o s) with a := o.byte s, x := o.byte s, p := setZN (o.byte s) s.p } := by
  have hagain : o.byte (opLda o s) = o.byte s := by cases o <;> rfl
  rw [opLax, opLdx_eq, hagain, opLda_eq]
  simp only [setZN_setZN]
  cases o <;> rfl

theorem opLas_eq (o : MemOperand) (s : State) :
    opLas o s =
      { afterRead o s with
        a := o.byte s &&& s.sp, x := o.byte s &&& s.sp, sp := o.byte s &&& s.sp
        p := setZN (o.byte s &&& s.sp) s.p } := rfl

/-- Settles O37: three groups of rows, each with its semantic function. -/
theorem combinedLoadStore : Obligations.CombinedLoadStore := by
  unfold Obligations.CombinedLoadStore
  refine ⟨?_, ?_, ?_⟩
  · exact runsMemory_of_gateOn .sax (by decide) opSax_eq
  · exact runsMemory_of_gateOn .lax (by decide) opLax_eq
  · exact runsMemory_of_gateOn .las (by decide) opLas_eq

/-- R242: after AND, N is bit 7 of A. -/
theorem opAnc_eq (o : MemOperand) (s : State) :
    opAnc o s =
      { afterRead o s with
        a := s.a &&& o.byte s
        p := setFlag .carry (s.a &&& o.byte s).msb (setZN (s.a &&& o.byte s) s.p) } := by
  have hn : getFlag .negative (setZN (s.a &&& o.byte s) s.p) = (s.a &&& o.byte s).msb := by
    rw [getFlag_eq_getLsbD (k := 7) (by decide), getLsbD_setZN, if_pos rfl, BitVec.msb_eq_getLsbD_last]
  rw [← hn]
  rfl

/-- A shift writes Z and N itself, so those an AND set before it are lost. -/
theorem shifted_setZN (r : Byte) (out : Bool) (v p : Byte) :
    (shifted r out (setZN v p)).status = setZN r (setFlag .carry out p) := by
  refine BitVec.eq_of_getLsbD_eq fun k _ => ?_
  simp only [shifted, getLsbD_setZN, getLsbD_setFlag]
  split_ifs <;> rfl

theorem opAlr_eq (o : MemOperand) (s : State) :
    opAlr o s =
      { afterRead o s with
        a := (s.a &&& o.byte s) >>> 1
        p := setZN ((s.a &&& o.byte s) >>> 1) (setFlag .carry ((s.a &&& o.byte s).getLsbD 0) s.p) } := by
  rw [← shifted_setZN _ _ (s.a &&& o.byte s)]
  rfl

theorem getFlag_carry_setZN (v p : Byte) : getFlag .carry (setZN v p) = getFlag .carry p := by
  rw [getFlag_eq_getLsbD (k := 0) (by decide), getFlag_eq_getLsbD (k := 0) (by decide), getLsbD_setZN,
    if_neg (by decide), if_neg (by decide)]

/-- R244 writes C over the one its rotate left. -/
theorem setFlag_carry_setZN_setFlag_carry (c d : Bool) (r p : Byte) :
    setFlag .carry c (setZN r (setFlag .carry d p)) = setFlag .carry c (setZN r p) := by
  refine BitVec.eq_of_getLsbD_eq fun k _ => ?_
  simp only [getLsbD_setZN, getLsbD_setFlag]
  split_ifs <;> rfl

theorem opArr_eq (o : MemOperand) (s : State) (r : Byte)
    (hr : r = BitVec.ofBool (getFlag .carry s.p) ++ (s.a &&& o.byte s).extractLsb' 1 7) :
    opArr o s =
      { afterRead o s with
        a := r
        p := setFlag .overflow (r.getLsbD 6 ^^ r.getLsbD 5) (setFlag .carry (r.getLsbD 6) (setZN r s.p)) } := by
  have hrotate : opRorAcc () (opAnd o s) =
      { afterRead o s with a := r, p := setZN r (setFlag .carry ((s.a &&& o.byte s).getLsbD 0) s.p) } := by
    rw [hr, ← shifted_setZN _ _ (s.a &&& o.byte s), ← getFlag_carry_setZN (s.a &&& o.byte s)]
    rfl
  rw [opArr, hrotate, ← setFlag_carry_setZN_setFlag_carry _ ((s.a &&& o.byte s).getLsbD 0)]
  rfl

theorem opXaa_eq (o : MemOperand) (s : State) :
    opXaa o s = { afterRead o s with a := s.x &&& o.byte s, p := setZN (s.x &&& o.byte s) s.p } := by
  have hbyte : o.byte (opTxa () s) = o.byte s := by cases o <;> rfl
  rw [opXaa, opAnd_eq, afterRead, hbyte, opTxa_eq, setZN_setZN]
  rfl

theorem opAxs_eq (o : MemOperand) (s : State) :
    opAxs o s =
      { afterRead o s with
        x := (s.a &&& s.x) - o.byte s
        p := (compareBytes (s.a &&& s.x) (o.byte s) s.p).status } := rfl

/-- Settles O38: five groups of rows, each with its semantic function. -/
theorem immediateCombinations : Obligations.ImmediateCombinations := by
  unfold Obligations.ImmediateCombinations
  refine ⟨?_, ?_, ?_, ?_, ?_⟩
  · exact runsMemory_of_gateOn .anc (by decide) opAnc_eq
  · exact runsMemory_of_gateOn .alr (by decide) opAlr_eq
  · exact runsMemory_of_gateOn .arr (by decide) fun o s => opArr_eq o s _ rfl
  · exact runsMemory_of_gateOn .xaa (by decide) opXaa_eq
  · exact runsMemory_of_gateOn .axs (by decide) opAxs_eq

/-- `H` of section 5 as a number. -/
theorem highPlusOne_eq (ea : Addr) : highPlusOne ea = BitVec.ofNat 8 (ea.toNat / 256 + 1) := by
  rw [highPlusOne, BitVec.ofNat_add, ← highByte_toNat, BitVec.ofNat_toNat, BitVec.setWidth_eq]

/-- Settles O39: four groups of rows; each semantic function is one bus write, and TAS moves SP before it. -/
theorem unstableStores : Obligations.UnstableStores := by
  unfold Obligations.UnstableStores
  intro h
  have hhigh (o : MemOperand) : highPlusOne o.ea = h o := highPlusOne_eq o.ea
  refine ⟨?_, ?_, ?_, ?_⟩
  · exact runsMemory_of_gateOn .ahx (by decide) fun o s => by rw [← hhigh]; rfl
  · exact runsMemory_of_gateOn .shy (by decide) fun o s => by rw [← hhigh]; rfl
  · exact runsMemory_of_gateOn .shx (by decide) fun o s => by rw [← hhigh]; rfl
  · exact runsMemory_of_gateOn .tas (by decide) fun o s => by rw [← hhigh]; rfl

/-- The twelve KIL bytes hold the same row but for the byte. -/
theorem rowAt_kil : ∀ op ∈ [0x02#8, 0x12#8, 0x22#8, 0x32#8, 0x42#8, 0x52#8, 0x62#8, 0x72#8, 0x92#8, 0xB2#8, 0xD2#8,
    0xF2#8], RowAt op ⟨op, .kil, .implied, 2, .illegal⟩ := by
  decide

theorem opcode_fetchedInstr (s : State) : (fetchedInstr s).row.opcode = s.byteAt s.pc :=
  opcode_decodeOpcode _ _ _

/-- Settles O40: the halted machine loads no budget, and the tick that halts it does not count. -/
theorem kilHalts : Obligations.KilHalts := by
  unfold Obligations.KilHalts
  intro op hop s hgate t
  have hexec (i : Instr) (hi : i.row.opcode = op) : exec i s = .next t :=
    exec_illegal_implied (f := ⟨op, 2⟩) hi (rowAt_kil op hop) hgate
  refine ⟨hexec, fun hdisp hbyte => ⟨?_, step_of_halted rfl⟩⟩
  exact step_of_exec hdisp (hexec _ ((opcode_fetchedInstr s).trans hbyte))

/-- R231 on a row without an operand. -/
theorem exec_of_gateOff_implied {i : Instr} {s : State} (hcls : i.row.cls = .illegal) (hm : i.row.mode = .implied)
    (hoff : s.straps.illegalOpcodesEnabled = false) :
    exec i s = .next (loadBudget i.row.base (record (.diagnostic i.row.opcode) (fetchOpcode i.row.opcode s))) := by
  rw [exec_eq_dispatchRow, dispatchRow, hm, hcls]
  simp [dispatchIllegal, implied, hoff]

/-- R231 on a row with an operand: its resolver runs all the same. -/
theorem exec_of_gateOff_memory {i : Instr} {s : State} {m : AddrMode} (hcls : i.row.cls = .illegal)
    (hm : i.row.mode = .addr m) (hoff : s.straps.illegalOpcodesEnabled = false) :
    exec i s = .next (loadBudget (i.row.base + (resolve m i.byte1 i.byte2 (fetchOpcode i.row.opcode s)).extra)
      (record (.diagnostic i.row.opcode) (resolve m i.byte1 i.byte2 (fetchOpcode i.row.opcode s)).state)) := by
  rw [exec_eq_dispatchRow, dispatchRow, hm, hcls]
  simp [dispatchIllegal, hoff]

/-- Settles O35: the notice on the state the resolver leaves, with the budget of the row and its crossing. -/
theorem gateOff : Obligations.GateOff := by
  unfold Obligations.GateOff
  intro i s hcls hrun hoff
  refine ⟨fun hm => ?_, fun m hm => ?_⟩
  · rw [exec_of_gateOff_implied hcls hm hoff,
      loadBudget_running (s := record (.diagnostic i.row.opcode) (fetchOpcode i.row.opcode s)) hrun]
    rfl
  · intro r
    have hstill : (record (.diagnostic i.row.opcode) r.state).halted = false := by simp [r, hrun]
    obtain ⟨reads, hstate, -⟩ := resolve_eq_resolved hm s
    have hr : r.state = s.resolved i reads := hstate
    rw [exec_of_gateOff_memory hcls hm hoff, loadBudget_running hstill, hr]
    rfl

end Sys2Proof.Machine
end

section
/-! The read-modify-write composites (49_nop_illegal.md R234 to R237, R240, R241) on a canonical memory: the second read
answers the byte just written, so each composite is one rewrite of the cell and one step of A and P. The obligation
O36. -/

namespace Sys2Proof.Machine

/-- A cell read, written with `r` and read again, as O36 names it. -/
def rewritten (o : MemOperand) (r : Byte) (s : State) : State :=
  { afterWrite o r (afterRead o s) with
    trace := .read o.ea r :: (afterWrite o r (afterRead o s)).trace }

theorem byte_afterWrite {s : State} (hwf : s.mem.wf = true) (ea : Addr) (r p : Byte) :
    (MemOperand.cell ea).byte { afterWrite (.cell ea) r (afterRead (.cell ea) s) with p := p } = r :=
  (byteAt_memWrite hwf ea r ea).trans (if_pos rfl)

/-- The state between the two primitives of a composite, read once more. -/
theorem afterRead_afterWrite {s : State} (hwf : s.mem.wf = true) (ea : Addr) (r p : Byte) :
    afterRead (.cell ea) { afterWrite (.cell ea) r (afterRead (.cell ea) s) with p := p } =
      { rewritten (.cell ea) r s with p := p } := by
  rw [afterRead, byte_afterWrite hwf]
  rfl

/-- SLO, RLA and SRE: a shift of the cell, then a logical operation of A with the result. -/
theorem logical_shiftMem_eq {op : MemOperand → State → State} {g : Byte → Byte → Byte} {f : Byte → Byte → Alu}
    {s : State} {ea : Addr} {r : Byte} {out : Bool} (hwf : s.mem.wf = true)
    (hop : ∀ o t, op o t = { afterRead o t with a := g t.a (o.byte t), p := setZN (g t.a (o.byte t)) t.p })
    (hf : f ((MemOperand.cell ea).byte s) s.p = shifted r out s.p) :
    op (.cell ea) (shiftMem f (.cell ea) s) =
      { rewritten (.cell ea) r s with a := g s.a r, p := setZN (g s.a r) (setFlag .carry out s.p) } := by
  have hzn : setZN (g s.a r) (shifted r out s.p).status = setZN (g s.a r) (setFlag .carry out s.p) :=
    setZN_setZN _ _ _
  rw [shiftMem_eq, hf, hop, afterRead_afterWrite hwf, byte_afterWrite hwf, ← hzn]
  rfl

/-- The adder writes Z and N itself and reads neither. -/
theorem adder_setZN (cfg : Config) (a m : Byte) (sub : Bool) (v p : Byte) :
    adder cfg a m sub (setZN v p) = adder cfg a m sub p := by
  have hd : getFlag .decimal (setZN v p) = getFlag .decimal p := by
    rw [getFlag_eq_getLsbD (k := 3) (by decide), getFlag_eq_getLsbD (k := 3) (by decide), getLsbD_setZN,
      if_neg (by decide), if_neg (by decide)]
  have hsum (sum : BitVec 16) : sumResult a m sum (setZN v p) = sumResult a m sum p := by
    refine congrArg (Alu.mk _) (BitVec.eq_of_getLsbD_eq fun k _ => ?_)
    simp only [getLsbD_setZN, getLsbD_setFlag]
    split_ifs <;> rfl
  simp only [adder, addCore, addCoreDecimal, hd, getFlag_carry_setZN, hsum]

/-- Compare writes Z and N itself. -/
theorem compareBytes_setZN (reg m v p : Byte) :
    (compareBytes reg m (setZN v p)).status = (compareBytes reg m p).status := by
  refine BitVec.eq_of_getLsbD_eq fun k _ => ?_
  rw [getLsbD_compareBytes_status, getLsbD_compareBytes_status, getLsbD_setZN]
  split_ifs <;> rfl

section
variable {s : State} (hwf : s.mem.wf = true) (ea : Addr) (r q : Byte)
include hwf

/-- RRA's second half: the rotate left Z and N from `r` in P, and the carry it shifted out. -/
theorem opAdc_afterWrite :
    opAdc (.cell ea) { afterWrite (.cell ea) r (afterRead (.cell ea) s) with p := setZN r q } =
      { rewritten (.cell ea) r s with
        a := (adder s.straps s.a r false q).value, p := (adder s.straps s.a r false q).status } := by
  have hsum := adder_setZN s.straps s.a r false r q
  rw [opAdc_eq, afterRead_afterWrite hwf, byte_afterWrite hwf, ← hsum]
  rfl

/-- ISC's second half. -/
theorem opSbc_afterWrite :
    opSbc (.cell ea) { afterWrite (.cell ea) r (afterRead (.cell ea) s) with p := setZN r q } =
      { rewritten (.cell ea) r s with
        a := (adder s.straps s.a (r ^^^ 0xFF#8) true q).value
        p := (adder s.straps s.a (r ^^^ 0xFF#8) true q).status } := by
  have hdiff := adder_setZN s.straps s.a (r ^^^ 0xFF#8) true r q
  rw [opSbc_eq, afterRead_afterWrite hwf, byte_afterWrite hwf, ← hdiff]
  rfl

/-- DCP's second half. -/
theorem opCmp_afterWrite :
    opCmp (.cell ea) { afterWrite (.cell ea) r (afterRead (.cell ea) s) with p := setZN r q } =
      { rewritten (.cell ea) r s with p := (compareBytes s.a r q).status } := by
  have hflags := compareBytes_setZN s.a r r q
  rw [opCmp_eq, afterRead_afterWrite hwf, byte_afterWrite hwf, ← hflags]
  rfl

end

theorem resolved_eq_cell {f : Form} (hf : f.mode ≠ .immediate) (i : Instr) (s : State) :
    ∃ ea, (f.resolved i s).opd = .cell ea := by
  unfold Form.resolved
  cases hm : f.mode
  case immediate => exact absurd hm hf
  all_goals exact ⟨_, rfl⟩

theorem mode_of_mem_compositeForms {b : Byte} {f : Form} (hf : f ∈ compositeForms b) : f.mode ≠ .immediate := by
  simp only [compositeForms, List.mem_cons, List.not_mem_nil, or_false] at hf
  rcases hf with rfl | rfl | rfl | rfl | rfl | rfl | rfl <;> nofun

theorem runsMemory_of_composite {b : Byte} {effect : MemOperand → State → State} (mn : Mnemonic)
    (hrows : ∀ f ∈ compositeForms b, RowAt f.opcode ⟨f.opcode, mn, .addr f.mode, f.base, .illegal⟩)
    (heffect : ∀ (ea : Addr) (s : State), s.mem.wf = true → memSemantic mn (.cell ea) s = effect (.cell ea) s) :
    RunsMemory (compositeForms b) (fun s => gateOn s ∧ s.mem.wf = true) effect := by
  refine runsMemory_of_illegal mn (fun s h => h.1) hrows fun f hf i s hpremise => ?_
  obtain ⟨ea, hea⟩ := resolved_eq_cell (mode_of_mem_compositeForms hf) i s
  have hwf : (f.resolved i s).state.mem.wf = true := by
    rw [Form.resolved, resolve_mem, fetchOpcode_mem]
    exact hpremise.2
  rw [hea]
  exact heffect ea _ hwf

/-- Settles O36: three composites of a shift with a logical operation, then those with the adder or a compare. -/
theorem readModifyWriteComposites : Obligations.ReadModifyWriteComposites := by
  unfold Obligations.ReadModifyWriteComposites
  intro premise rewritten add
  have hadd (a m p : Byte) (sub : Bool) (s : State) : add a m p sub s = adder s.straps a m sub p :=
    (adder_eq _ _ _ _ _).symm
  refine ⟨?_, ?_, ?_, ?_, ?_, ?_⟩
  · exact runsMemory_of_composite .slo (by decide) fun _ _ hwf => logical_shiftMem_eq hwf opOra_eq rfl
  · exact runsMemory_of_composite .rla (by decide) fun _ _ hwf => logical_shiftMem_eq hwf opAnd_eq rfl
  · exact runsMemory_of_composite .sre (by decide) fun _ _ hwf => logical_shiftMem_eq hwf opEor_eq rfl
  · simp only [hadd]
    exact runsMemory_of_composite .rra (by decide) fun ea _ hwf => opAdc_afterWrite hwf ea _ _
  · exact runsMemory_of_composite .dcp (by decide) fun ea _ hwf => opCmp_afterWrite hwf ea _ _
  · simp only [hadd]
    exact runsMemory_of_composite .isc (by decide) fun ea _ hwf => opSbc_afterWrite hwf ea _ _

end Sys2Proof.Machine
end

section
/-! Round trips through the stack page (46_stack_control.md R172, R176, R178, R180; 60_exceptions.md R298 to R301) on a
canonical memory: what a pull answers after a push depends on memory and SP alone, whatever else happened in between.
The obligations O33 and O51. -/

namespace Sys2Proof.Machine

theorem stackRead_write {m : Memory} (hwf : m.wf = true) (p q v : Byte) :
    (m.write (stackAddr p).toNat v).read (stackAddr q).toNat = if q = p then v else m.read (stackAddr q).toNat := by
  rw [Memory.read_write hwf]
  simp only [BitVec.toNat_inj, stackAddr_inj]

theorem stackWrite_wf {m : Memory} (hwf : m.wf = true) (p v : Byte) : (m.write (stackAddr p).toNat v).wf = true :=
  Memory.wf_write hwf v (addr_lt_addressSpace _)

theorem byte_sub_one_ne (b : Byte) : b ≠ b - 1#8 := by bv_omega

/-- Pop answers what was pushed and puts SP back. -/
theorem pop_push {s t : State} {v : Byte} (hwf : s.mem.wf = true) (hmem : t.mem = (push v s).mem)
    (hsp : t.sp = s.sp - 1#8) : t.byteAt (stackAddr (t.sp + 1#8)) = v ∧ t.sp + 1#8 = s.sp := by
  have hback : t.sp + 1#8 = s.sp := by rw [hsp, BitVec.sub_add_cancel]
  refine ⟨?_, hback⟩
  rw [hback, State.byteAt, hmem, push_mem, stackRead_write hwf, if_pos rfl]

/-- The same for a 16-bit word. -/
theorem pop16_push16 {s t : State} {w : Addr} (hwf : s.mem.wf = true) (hmem : t.mem = (push16 w s).mem)
    (hsp : t.sp = s.sp - 2#8) :
    word (t.byteAt (stackAddr (t.sp + 2#8))) (t.byteAt (stackAddr (t.sp + 1#8))) = w ∧ t.sp + 2#8 = s.sp := by
  have hlow : t.sp + 1#8 = s.sp - 1#8 := by rw [hsp]; bv_omega
  have hhigh : t.sp + 2#8 = s.sp := by rw [hsp]; bv_omega
  refine ⟨?_, hhigh⟩
  rw [hlow, hhigh, State.byteAt, State.byteAt, hmem, push16_eq, stackRead_write (stackWrite_wf hwf _ _),
    stackRead_write (stackWrite_wf hwf _ _), stackRead_write hwf, if_neg (byte_sub_one_ne s.sp), if_pos rfl, if_pos rfl,
    word_highByte_lowByte]

section
variable (w : Addr) (b p : Byte) (vector : Addr) (s : State)

@[simp] theorem entered_mem : (entered w b p vector s).mem = entryMemory w b s := by rw [entered]
@[simp] theorem entered_sp : (entered w b p vector s).sp = s.sp - 3#8 := by rw [entered]
@[simp] theorem entered_p : (entered w b p vector s).p = p := by rw [entered]
@[simp] theorem entered_a : (entered w b p vector s).a = s.a := by rw [entered]
@[simp] theorem entered_x : (entered w b p vector s).x = s.x := by rw [entered]
@[simp] theorem entered_y : (entered w b p vector s).y = s.y := by rw [entered]
@[simp] theorem entered_halted : (entered w b p vector s).halted = s.halted := by rw [entered]

end

/-- An interrupt entry and its return. -/
theorem return_entry {s t : State} {w : Addr} {b : Byte} (hwf : s.mem.wf = true) (hmem : t.mem = entryMemory w b s)
    (hsp : t.sp = s.sp - 3#8) :
    t.byteAt (stackAddr (t.sp + 1#8)) = b ∧
      word (t.byteAt (stackAddr (t.sp + 3#8))) (t.byteAt (stackAddr (t.sp + 2#8))) = w ∧ t.sp + 3#8 = s.sp := by
  have hstatus : t.sp + 1#8 = s.sp - 2#8 := by rw [hsp]; bv_omega
  have hlow : t.sp + 2#8 = s.sp - 1#8 := by rw [hsp]; bv_omega
  have hhigh : t.sp + 3#8 = s.sp := by rw [hsp]; bv_omega
  have hne : s.sp - 1#8 ≠ s.sp - 2#8 := by bv_omega
  have hne' : s.sp ≠ s.sp - 2#8 := by bv_omega
  have hread (q : Byte) : t.byteAt (stackAddr q) =
      if q = s.sp - 2#8 then b else if q = s.sp - 1#8 then lowByte w else
        if q = s.sp then highByte w else s.mem.read (stackAddr q).toNat := by
    rw [State.byteAt, hmem, entryMemory, stackRead_write (stackWrite_wf (stackWrite_wf hwf _ _) _ _),
      stackRead_write (stackWrite_wf hwf _ _), stackRead_write hwf]
  refine ⟨by rw [hstatus, hread, if_pos rfl], ?_, hhigh⟩
  rw [hlow, hhigh, hread, hread, if_neg hne, if_neg hne', if_neg (byte_sub_one_ne s.sp), if_pos rfl, if_pos rfl,
    word_highByte_lowByte]

theorem exec_of_implied {i : Instr} {s : State} (hm : i.row.mode = .implied) (hcls : i.row.cls = .legal)
    (hmn : i.row.mnemonic ≠ .kil) (hrun : s.halted = false) :
    exec i s = .next
      (addCycles i.row.base (impliedSemantic i.row.mnemonic () (fetchOpcode i.row.opcode s))) := by
  have hstill : (impliedSemantic i.row.mnemonic () (fetchOpcode i.row.opcode s)).halted = false := by
    rw [impliedSemantic_halted hmn, fetchOpcode_halted, hrun]
  rw [exec_eq_dispatchRow, dispatchRow, hm, hcls, ← loadBudget_running hstill]
  rfl

/-- R176 on a stacked copy of P: bits forced on in the copy are dropped, the live Break bits are kept. -/
theorem pulledStatus_or {forced : Byte} (hforced : forced &&& 0xCF#8 = 0x00#8) (p live : Byte) :
    pulledStatus (p ||| forced) (p ||| live) = p ||| (live &&& 0x30#8) := by
  have hall : p &&& (0xCF#8 ||| 0x30#8) = p := BitVec.and_allOnes
  rw [pulledStatus, BitVec.and_or_distrib_right, hforced, BitVec.or_zero, BitVec.and_or_distrib_right,
    ← BitVec.or_assoc, ← BitVec.and_or_distrib_left, hall]

theorem exec_php {s : State} (hrun : s.halted = false) :
    exec .php s = .next (addCycles 3 (opPhp () (fetchOpcode 0x08#8 s))) :=
  exec_of_implied rfl rfl (by decide) hrun

theorem exec_plp {s : State} (hrun : s.halted = false) :
    exec .plp s = .next (addCycles 4 (opPlp () (fetchOpcode 0x28#8 s))) :=
  exec_of_implied rfl rfl (by decide) hrun

theorem exec_pha {s : State} (hrun : s.halted = false) :
    exec .pha s = .next (addCycles 3 (opPha () (fetchOpcode 0x48#8 s))) :=
  exec_of_implied rfl rfl (by decide) hrun

theorem exec_pla {s : State} (hrun : s.halted = false) :
    exec .pla s = .next (addCycles 4 (opPla () (fetchOpcode 0x68#8 s))) :=
  exec_of_implied rfl rfl (by decide) hrun

theorem exec_rts {s : State} (hrun : s.halted = false) :
    exec .rts s = .next (addCycles 6 (opRts () (fetchOpcode 0x60#8 s))) :=
  exec_of_implied rfl rfl (by decide) hrun

theorem exec_brk {s : State} (hrun : s.halted = false) :
    exec .brk s = .next (addCycles 7 (opBrk () (fetchOpcode 0x00#8 s))) :=
  exec_of_implied rfl rfl (by decide) hrun

theorem exec_rti {s : State} (hrun : s.halted = false) :
    exec .rti s = .next (addCycles 6 (returnFromInterrupt (fetchOpcode 0x40#8 s))) :=
  exec_of_implied rfl rfl (by decide) hrun

/-- What RTI leaves after an entry that stacked `w` and `p` with bits forced on, while P held `p` with more bits set. -/
theorem exec_rti_of_entry {s t : State} {w : Addr} {p forced live : Byte} (hwf : s.mem.wf = true)
    (hforced : forced &&& 0xCF#8 = 0x00#8) (hmem : t.mem = entryMemory w (p ||| forced) s) (hsp : t.sp = s.sp - 3#8)
    (hp : t.p = p ||| live) (hrun : t.halted = false) (hregs : t.a = s.a ∧ t.x = s.x ∧ t.y = s.y) :
    ∃ u, exec .rti t = .next u ∧ u.pc = w ∧ u.sp = s.sp ∧ u.p = p ||| (live &&& 0x30#8) ∧ u.a = s.a ∧ u.x = s.x ∧
      u.y = s.y := by
  obtain ⟨hstatus, hpc, hback⟩ := return_entry (t := fetchOpcode 0x40#8 t) hwf hmem hsp
  refine ⟨_, exec_rti hrun, ?_⟩
  rw [returnFromInterrupt_eq, hstatus, hpc, hback, fetchOpcode_p, hp, pulledStatus_or hforced]
  exact ⟨rfl, rfl, rfl, hregs⟩

theorem opRts_opJsr {s : State} (hwf : s.mem.wf = true) (ea : Addr) :
    let u := opRts () (fetchOpcode 0x60#8 (addCycles 6 (opJsr (.cell ea) s)))
    u.pc = s.pc ∧ u.sp = s.sp ∧ u.p = s.p := by
  have hsp : (opJsr (.cell ea) s).sp = s.sp - 2#8 := byte_sub_one_sub_one s.sp
  obtain ⟨hpulled, hback⟩ := pop16_push16 (w := s.pc - 1#16)
    (t := fetchOpcode 0x60#8 (addCycles 6 (opJsr (.cell ea) s))) hwf rfl hsp
  rw [opRts_eq, hpulled, hback]
  simp [addCycles, opJsr_eq]

section
variable {s : State} (hwf : s.mem.wf = true) (hrun : s.halted = false)
include hwf hrun

theorem exec_php_plp : ∃ t u, exec .php s = .next t ∧ exec .plp t = .next u ∧ u.p = s.p ∧ u.sp = s.sp := by
  obtain ⟨hpulled, hback⟩ := pop_push (v := s.p ||| 0x30#8)
    (t := fetchOpcode 0x28#8 (addCycles 3 (opPhp () (fetchOpcode 0x08#8 s)))) hwf rfl rfl
  have hp := pulledStatus_or (forced := 0x30#8) (by decide) s.p 0x00#8
  rw [BitVec.or_zero, BitVec.zero_and, BitVec.or_zero] at hp
  refine ⟨_, _, exec_php hrun, exec_plp hrun, ?_⟩
  rw [opPlp_eq, hpulled, hback]
  simpa [addCycles, opPhp_eq] using hp

theorem exec_pha_pla : ∃ t u, exec .pha s = .next t ∧ exec .pla t = .next u ∧ u.a = s.a ∧ u.sp = s.sp := by
  obtain ⟨hpulled, hback⟩ := pop_push (v := s.a)
    (t := fetchOpcode 0x68#8 (addCycles 3 (opPha () (fetchOpcode 0x48#8 s)))) hwf rfl rfl
  refine ⟨_, _, exec_pha hrun, exec_pla hrun, ?_⟩
  rw [opPla_eq, hpulled, hback]
  simp [addCycles]

/-- R177 pushes the address of JSR's last byte, which RTS puts in PC plus 1 (R178). -/
theorem exec_jsr_rts (l h : Byte) : ∃ t u, exec (.jsr l h) s = .next t ∧ t.pc = word h l ∧ exec .rts t = .next u ∧
    u.pc = s.pc + 3#16 ∧ u.sp = s.sp ∧ u.p = s.p := by
  have hpc : s.pc + 1#16 + 1#16 + 1#16 = s.pc + 3#16 := by bv_omega
  have hjsr := exec_jsr l h hrun
  obtain ⟨hupc, husp, hup⟩ :=
    opRts_opJsr (s := fetchOperand h (fetchOperand l (fetchOpcode 0x20#8 s))) hwf (word h l)
  rw [fetchOperand_pc, fetchOperand_pc, fetchOpcode_pc, hpc] at hupc
  rw [opJsr_eq] at hjsr
  refine ⟨_, _, hjsr, rfl, exec_rts hrun, ?_⟩
  rw [← opJsr_eq]
  exact ⟨hupc, husp, hup⟩

theorem exec_brk_rti : ∃ t u, exec .brk s = .next t ∧ exec .rti t = .next u ∧ u.pc = s.pc + 2#16 ∧ u.sp = s.sp ∧
    u.p = s.p ||| 0x30#8 ∧ u.a = s.a ∧ u.x = s.x ∧ u.y = s.y := by
  have hbrk := exec_brk hrun
  rw [opBrk_eq, fetchOpcode_pc, addr_add_one_add_one] at hbrk
  obtain ⟨u, hu, hfields⟩ := exec_rti_of_entry (s := fetchOpcode 0x00#8 s) (w := s.pc + 2#16) (p := s.p)
    (forced := 0x30#8) (live := 0x34#8)
    (t := addCycles 7 (entered (s.pc + 2#16) (s.p ||| 0x30#8) (s.p ||| 0x34#8) 0xFFFE#16 (fetchOpcode 0x00#8 s)))
    hwf (by decide) (by simp [addCycles]) (by simp [addCycles]) (by simp [addCycles]) (by simp [addCycles, hrun])
    (by simp [addCycles])
  exact ⟨_, u, hbrk, hu, hfields⟩

end

/-- Settles O33: the four pairs in turn. -/
theorem stackRoundTrips : Obligations.StackRoundTrips := by
  unfold Obligations.StackRoundTrips
  intro s hwf hrun
  exact ⟨exec_php_plp hwf hrun, exec_pha_pla hwf hrun, exec_jsr_rts hwf hrun, exec_brk_rti hwf hrun⟩

theorem intPushBreakMask_and (m : IntPushBreakMask) : m.toByte &&& 0xCF#8 = 0x00#8 := by
  cases m <;> decide

/-- What a service leaves for RTI to return from, whichever latch called for it (R296). -/
theorem service_fields {s t : State} (hrun : s.halted = false) (hzero : s.remainingCycles = 0x00#8)
    (hdue : s.pendingNmi = true ∨ s.pendingIrq = true ∧ s.p.getLsbD 2 = false) (hstep : step s = .next t) :
    t.mem = entryMemory s.pc (s.p ||| s.straps.intPushBreakMask.toByte) s ∧ t.sp = s.sp - 3#8 ∧
      t.p = s.p ||| 0x04#8 ∧ t.halted = false ∧ t.a = s.a ∧ t.x = s.x ∧ t.y = s.y := by
  obtain ⟨hofNmi, hofIrq⟩ := interruptService s hrun hzero
  cases hnmi : s.pendingNmi with
  | true =>
    rw [hofNmi hnmi, Host.Outcome.next.injEq] at hstep
    subst hstep
    simp [hrun]
  | false =>
    obtain hno | ⟨hirq, hclear⟩ := hdue
    · exact absurd (hnmi.symm.trans hno) nofun
    · rw [hofIrq hnmi hirq hclear, Host.Outcome.next.injEq] at hstep
      subst hstep
      simp [hrun]

/-- Settles O51: P comes back whole, I with it, for the Break bits never changed. -/
theorem serviceThenReturn : Obligations.ServiceThenReturn := by
  unfold Obligations.ServiceThenReturn
  intro s t hwf hrun hzero hdue hstep
  obtain ⟨hmem, hsp, hp, hstill, hregs⟩ := service_fields hrun hzero hdue hstep
  have hi : t.p.getLsbD 2 = true := by
    rw [hp, BitVec.getLsbD_or]
    exact Bool.or_true _
  have hkept : s.p ||| (0x04#8 &&& 0x30#8) = s.p := BitVec.or_zero
  have hreturn := exec_rti_of_entry hwf (intPushBreakMask_and s.straps.intPushBreakMask) hmem hsp hp hstill hregs
  rw [hkept] at hreturn
  exact ⟨hi, hreturn⟩

end Sys2Proof.Machine
end

section
/-! The adders over the integers (41_arithmetic.md R120, R121, R123; D13, D28): the three 16-bit sums as numbers, the
four flags bit by bit, and the obligations O6 and O7. -/

namespace Sys2Proof.Machine

theorem lowByte_toNat (w : Addr) : (lowByte w).toNat = w.toNat % 256 := by
  rw [lowByte, BitVec.extractLsb'_toNat, Nat.shiftRight_zero]

theorem carryIn_toNat (c : Bool) : (carryIn c).toNat = c.toNat := by
  cases c <;> rfl

/-- The 16-bit sum of R120 never wraps. -/
theorem binarySum_toNat (a m : Byte) (c : Bool) :
    (zext16 a + zext16 m + carryIn c).toNat = a.toNat + m.toNat + c.toNat := by
  have ha := a.isLt
  have hm := m.isLt
  have hc := c.toNat_le
  rw [BitVec.toNat_add, BitVec.toNat_add, zext16_toNat, zext16_toNat, carryIn_toNat]
  omega

theorem getLsbD_sumResult_status (a m : Byte) (sum : BitVec 16) (p : Byte) (k : Nat) :
    (sumResult a m sum p).status.getLsbD k =
      if k = 7 then (lowByte sum).getLsbD 7 else if k = 1 then decide (lowByte sum = 0x00#8)
      else if k = 6 then overflowRule a m (lowByte sum) else if k = 0 then decide (255 < sum.toNat)
      else p.getLsbD k := by
  simp [sumResult, getLsbD_setZN, getLsbD_setFlag, BitVec.lt_def]

/-- A byte's sign bit, as a number and in its signed reading. -/
theorem getLsbD_seven (b : Byte) : b.getLsbD 7 = decide (128 ≤ b.toNat) := by
  rw [← BitVec.msb_eq_getLsbD_last, BitVec.msb_eq_decide]

theorem toInt_eq_ite (b : Byte) : b.toInt = if 128 ≤ b.toNat then (b.toNat : Int) - 256 else b.toNat := by
  rw [BitVec.toInt_eq_toNat_cond]
  split <;> split <;> omega

/-- R120's sign-bit rule: the operands agree in sign and the result does not. -/
theorem overflowRule_eq (a m r : Byte) :
    overflowRule a m r = (!(a.getLsbD 7 ^^ m.getLsbD 7) && (a.getLsbD 7 ^^ r.getLsbD 7)) := by
  have hmask : 0x80#8 = BitVec.twoPow 8 7 := by decide
  have hne : BitVec.twoPow 8 7 ≠ 0x00#8 := by decide
  rw [overflowRule, hmask, BitVec.and_twoPow, BitVec.getLsbD_and, BitVec.getLsbD_not, BitVec.getLsbD_xor,
    BitVec.getLsbD_xor]
  cases a.getLsbD 7 ^^ m.getLsbD 7 <;> cases a.getLsbD 7 ^^ r.getLsbD 7 <;> decide

/-- D28: for the binary sum that is the signed sum out of range. -/
theorem overflowRule_binarySum (a m : Byte) (c : Bool) :
    overflowRule a m (lowByte (zext16 a + zext16 m + carryIn c)) =
      decide (a.toInt + m.toInt + c.toNat < -128 ∨ 127 < a.toInt + m.toInt + c.toNat) := by
  have ha := a.isLt
  have hm := m.isLt
  have hc := c.toNat_le
  rw [overflowRule_eq, getLsbD_seven, getLsbD_seven, getLsbD_seven, lowByte_toNat, binarySum_toNat, toInt_eq_ite,
    toInt_eq_ite, Bool.eq_iff_iff]
  simp only [Bool.and_eq_true, Bool.not_eq_true', bne_eq_false_iff_eq, bne_iff_ne, ne_eq, decide_eq_decide,
    decide_eq_true_iff]
  split_ifs with hneg hneg' hneg' <;> omega

theorem toNat_xor_allOnes (m : Byte) : (m ^^^ 0xFF#8).toNat = 255 - m.toNat := by
  have hnot : m ^^^ 0xFF#8 = ~~~ m := BitVec.xor_allOnes
  rw [hnot, BitVec.toNat_not]

/-- Settles O6: the sum as a number and its flags bit by bit, for `m` and for the inverted operand `255 - m`. -/
theorem binaryAdderOverIntegers : Obligations.BinaryAdderOverIntegers := by
  unfold Obligations.BinaryAdderOverIntegers
  intro a m c p r d
  have ha := a.isLt
  have hm := m.isLt
  have hc := c.toNat_le
  have hsum := binarySum_toNat a m c
  have hdiff := binarySum_toNat a (m ^^^ 0xFF#8) c
  have hbit (k : Nat) := getLsbD_sumResult_status a m (zext16 a + zext16 m + carryIn c) p k
  rw [toNat_xor_allOnes] at hdiff
  refine ⟨?_, ?_, ?_, ?_, ?_, sumResult_status_and_mask _ _ _ _, ?_, ?_⟩
  · exact (lowByte_toNat _).trans (by rw [hsum])
  · exact (hbit 0).trans (by simp [hsum])
  · exact (hbit 6).trans (by simp [overflowRule_binarySum])
  · exact hbit 1
  · exact hbit 7
  · have hvalue : d.value.toNat = (a.toNat + (255 - m.toNat) + c.toNat) % 256 := (lowByte_toNat _).trans (by rw [hdiff])
    omega
  · have hstatus : d.status.getLsbD 0 = decide (255 < a.toNat + (255 - m.toNat) + c.toNat) :=
      (getLsbD_sumResult_status _ _ _ _ 0).trans (by simp [hdiff])
    rw [hstatus, decide_eq_true_iff]
    omega

theorem nibbleSum_eq (a m : Byte) (c : Bool) : nibbleSum a m c = a.toNat % 16 + m.toNat % 16 + c.toNat := by
  have hnibble (b : Byte) : (b &&& 0x0F#8).toNat = b.toNat % 16 := by
    rw [BitVec.toNat_and]
    exact Nat.and_two_pow_sub_one_eq_mod b.toNat 4
  rw [nibbleSum, hnibble, hnibble]

/-- R121's two corrections of an addition, on numbers. -/
def decimalAddNat (s0 nib : Nat) : Nat :=
  let s1 := if 9 < nib then s0 + 6 else s0
  if 0x9F < s1 then s1 + 0x60 else s1

/-- R121's two corrections of a subtraction, on numbers; `s0` is large enough where the operand was BCD. -/
def decimalSubNat (s0 nib : Nat) : Nat :=
  let s1 := if nib ≤ 0x0F then s0 - 6 else s0
  if s0 ≤ 0xFF then s1 - 0x60 else s1

theorem decimalAddSum_toNat (a m : Byte) (c : Bool) :
    (decimalAddSum a m c).toNat = decimalAddNat (a.toNat + m.toNat + c.toNat) (nibbleSum a m c) := by
  have ha := a.isLt
  have hm := m.isLt
  have hc := c.toNat_le
  have hsum := binarySum_toNat a m c
  unfold decimalAddSum decimalAddNat
  generalize zext16 a + zext16 m + carryIn c = s0 at *
  by_cases hnibble : 9 < nibbleSum a m c
  · simp only [if_pos hnibble, ← hsum]
    split_ifs <;> bv_omega
  · simp only [if_neg hnibble, ← hsum]
    split_ifs <;> bv_omega

theorem decimalSubSum_toNat {a m : Byte} (hlarge : 0x66 ≤ m.toNat) (c : Bool) :
    (decimalSubSum a m c).toNat = decimalSubNat (a.toNat + m.toNat + c.toNat) (nibbleSum a m c) := by
  have ha := a.isLt
  have hm := m.isLt
  have hc := c.toNat_le
  have hsum := binarySum_toNat a m c
  unfold decimalSubSum decimalSubNat
  generalize zext16 a + zext16 m + carryIn c = s0 at *
  by_cases hnibble : nibbleSum a m c ≤ 0x0F
  · simp only [if_pos hnibble, ← hsum]
    split_ifs <;> bv_omega
  · simp only [if_neg hnibble, ← hsum]
    split_ifs <;> bv_omega

/-- The packed BCD byte of a number below 100, its tens in the high nibble (R121). -/
def bcd (n : Nat) : Byte := BitVec.ofNat 8 (16 * (n / 10) + n % 10)

theorem bcd_toNat {tens units : Nat} (ht : tens ≤ 9) (hu : units ≤ 9) :
    (bcd (10 * tens + units)).toNat = 16 * tens + units := by
  rw [bcd, BitVec.toNat_ofNat]
  omega

/-- The corrected sum `s` carries and packs the same digits as the decimal number `n`. -/
def SameDigits (n s : Nat) : Prop :=
  ∃ carry tens units, tens ≤ 9 ∧ units ≤ 9 ∧ n = 100 * carry + (10 * tens + units) ∧
    s = 256 * carry + (16 * tens + units)

theorem SameDigits.mod_eq {n s : Nat} (h : SameDigits n s) : s % 256 = (bcd (n % 100)).toNat := by
  obtain ⟨carry, tens, units, ht, hu, rfl, rfl⟩ := h
  rw [Nat.mul_add_mod, Nat.mul_add_mod, Nat.mod_eq_of_lt (by omega : 10 * tens + units < 100), bcd_toNat ht hu]
  omega

theorem SameDigits.carry_iff {n s : Nat} (h : SameDigits n s) : 255 < s ↔ 100 ≤ n := by
  obtain ⟨carry, tens, units, ht, hu, rfl, rfl⟩ := h
  omega

/-- R121's addition on digits: 6 carries out of the low nibble, 0x60 out of the high one. -/
theorem sameDigits_decimalAddNat {a1 a0 m1 m0 c : Nat} (ha1 : a1 ≤ 9) (ha0 : a0 ≤ 9) (hm1 : m1 ≤ 9) (hm0 : m0 ≤ 9)
    (hc : c ≤ 1) :
    SameDigits (10 * a1 + a0 + (10 * m1 + m0) + c)
      (decimalAddNat (16 * a1 + a0 + (16 * m1 + m0) + c) (a0 + m0 + c)) := by
  simp only [decimalAddNat]
  split_ifs with hunits htens htens
  · exact ⟨1, a1 + m1 + 1 - 10, a0 + m0 + c - 10, by omega⟩
  · exact ⟨0, a1 + m1 + 1, a0 + m0 + c - 10, by omega⟩
  · exact ⟨1, a1 + m1 - 10, a0 + m0 + c, by omega⟩
  · exact ⟨0, a1 + m1, a0 + m0 + c, by omega⟩

/-- R121's subtraction on digits, the operand inverted: no carry out of a nibble is a borrow, paid back by 6 or 0x60. -/
theorem sameDigits_decimalSubNat {a1 a0 m1 m0 c : Nat} (ha1 : a1 ≤ 9) (ha0 : a0 ≤ 9) (hm1 : m1 ≤ 9) (hm0 : m0 ≤ 9)
    (hc : c ≤ 1) :
    SameDigits (100 + (10 * a1 + a0) - (10 * m1 + m0) - (1 - c))
      (decimalSubNat (16 * a1 + a0 + (255 - (16 * m1 + m0)) + c) (a0 + (15 - m0) + c)) := by
  simp only [decimalSubNat]
  split_ifs with htens hunits hunits
  · exact ⟨0, a1 + 9 - m1, a0 + c + 9 - m0, by omega⟩
  · exact ⟨0, a1 + 10 - m1, a0 + c - 1 - m0, by omega⟩
  · exact ⟨1, a1 - m1 - 1, a0 + c + 9 - m0, by omega⟩
  · exact ⟨1, a1 - m1, a0 + c - 1 - m0, by omega⟩

theorem sumResult_value_of_sameDigits {n : Nat} {sum : BitVec 16} (h : SameDigits n sum.toNat) (a m p : Byte) :
    (sumResult a m sum p).value = bcd (n % 100) :=
  BitVec.eq_of_toNat_eq ((lowByte_toNat sum).trans h.mod_eq)

theorem sumResult_carry_of_sameDigits {n : Nat} {sum : BitVec 16} (h : SameDigits n sum.toNat) (a m p : Byte) :
    (sumResult a m sum p).status.getLsbD 0 = decide (100 ≤ n) :=
  (getLsbD_sumResult_status a m sum p 0).trans (decide_eq_decide.mpr h.carry_iff)

/-- Settles O7: each corrected sum has the digits of the decimal sum or difference. -/
theorem decimalResultIsBcd : Obligations.DecimalResultIsBcd := by
  unfold Obligations.DecimalResultIsBcd
  intro a1 a0 m1 m0 c p ha1 ha0 hm1 hm0
  have hc := c.toNat_le
  have ha := bcd_toNat ha1 ha0
  have hm := bcd_toNat hm1 hm0
  have hinv := toNat_xor_allOnes (bcd (10 * m1 + m0))
  have hadd : SameDigits (10 * a1 + a0 + (10 * m1 + m0) + c.toNat)
      (decimalAddSum (bcd (10 * a1 + a0)) (bcd (10 * m1 + m0)) c).toNat := by
    rw [decimalAddSum_toNat, nibbleSum_eq, ha, hm, Nat.mul_add_mod, Nat.mul_add_mod,
      Nat.mod_eq_of_lt (by omega : a0 < 16), Nat.mod_eq_of_lt (by omega : m0 < 16)]
    exact sameDigits_decimalAddNat ha1 ha0 hm1 hm0 hc
  have hsub : SameDigits (100 + (10 * a1 + a0) - (10 * m1 + m0) - (1 - c.toNat))
      (decimalSubSum (bcd (10 * a1 + a0)) (bcd (10 * m1 + m0) ^^^ 0xFF#8) c).toNat := by
    rw [decimalSubSum_toNat (by omega), nibbleSum_eq, hinv, ha, hm, Nat.mul_add_mod,
      Nat.mod_eq_of_lt (by omega : a0 < 16), (by omega : (255 - (16 * m1 + m0)) % 16 = 15 - m0)]
    exact sameDigits_decimalSubNat ha1 ha0 hm1 hm0 hc
  refine ⟨sumResult_value_of_sameDigits hadd _ _ _, sumResult_carry_of_sameDigits hadd _ _ _,
    sumResult_value_of_sameDigits hsub _ _ _, (sumResult_carry_of_sameDigits hsub _ _ _).trans ?_⟩
  exact decide_eq_decide.mpr (by omega)

end Sys2Proof.Machine
end

section
/-! The shifts as arithmetic (43_shift_rotate.md R141 to R144; the obligation O21), the rotation of nine bits behind
ROL, and the byte strings the spec writes out (30_encoding.md section 3; the obligation O4). -/

namespace Sys2Proof.Machine

@[simp] theorem getLsbD_shifted_status_zero (r : Byte) (out : Bool) (p : Byte) :
    (shifted r out p).status.getLsbD 0 = out := by
  rw [shifted, getLsbD_setZN, getLsbD_setFlag]
  rfl

theorem getFlag_carry_eq (p : Byte) : getFlag .carry p = p.getLsbD 0 :=
  getFlag_eq_getLsbD (by decide) p

theorem getLsbD_zero_eq_odd (b : Byte) : b.getLsbD 0 = decide (b.toNat % 2 = 1) := by
  rw [BitVec.getLsbD, Nat.testBit_zero]

theorem aslByte_value_toNat (v p : Byte) : (aslByte v p).value.toNat = 2 * v.toNat % 256 := by
  change (v <<< 1).toNat = _
  bv_omega

theorem lsrByte_value_toNat (v p : Byte) : (lsrByte v p).value.toNat = v.toNat / 2 := by
  change (v >>> 1).toNat = _
  bv_omega

theorem rolByte_value_toNat (v p : Byte) :
    (rolByte v p).value.toNat = (2 * v.toNat + (p.getLsbD 0).toNat) % 256 := by
  change (v.extractLsb' 0 7 ++ BitVec.ofBool (getFlag .carry p)).toNat = _
  have hlow : (BitVec.ofBool (p.getLsbD 0)).toNat < 2 ^ 1 := BitVec.isLt _
  have hcarry := (p.getLsbD 0).toNat_le
  rw [getFlag_carry_eq, BitVec.toNat_append, ← Nat.shiftLeft_add_eq_or_of_lt hlow, BitVec.extractLsb'_toNat,
    BitVec.toNat_ofBool, Nat.shiftRight_zero]
  omega

theorem rorByte_value_toNat (v p : Byte) :
    (rorByte v p).value.toNat = v.toNat / 2 + 128 * (p.getLsbD 0).toNat := by
  change (BitVec.ofBool (getFlag .carry p) ++ v.extractLsb' 1 7).toNat = _
  have hlow : (v.extractLsb' 1 7).toNat < 2 ^ 7 := BitVec.isLt _
  have hv := v.isLt
  rw [getFlag_carry_eq, BitVec.toNat_append, ← Nat.shiftLeft_add_eq_or_of_lt hlow, BitVec.extractLsb'_toNat,
    BitVec.toNat_ofBool]
  omega

theorem rolByte_carry (v p : Byte) : (rolByte v p).status.getLsbD 0 = v.getLsbD 7 :=
  getLsbD_shifted_status_zero ..

theorem rorByte_carry (v p : Byte) : (rorByte v p).status.getLsbD 0 = v.getLsbD 0 :=
  getLsbD_shifted_status_zero ..

theorem rorByte_rolByte (v p : Byte) :
    (rorByte (rolByte v p).value (rolByte v p).status).value = v ∧
      (rorByte (rolByte v p).value (rolByte v p).status).status.getLsbD 0 = p.getLsbD 0 := by
  have hv := v.isLt
  have hvalue := rolByte_value_toNat v p
  constructor
  · apply BitVec.eq_of_toNat_eq
    rw [rorByte_value_toNat, rolByte_carry, getLsbD_seven, hvalue]
    have hcarry := (p.getLsbD 0).toNat_le
    by_cases hbit : 128 ≤ v.toNat
    · rw [decide_eq_true hbit, Bool.toNat_true]
      omega
    · rw [decide_eq_false hbit, Bool.toNat_false]
      omega
  · rw [rorByte_carry, getLsbD_zero_eq_odd, hvalue]
    cases p.getLsbD 0 <;> simp

/-- The nine bits ROL turns: the operand's, and the carry above them. -/
def ringBit (r : Alu) (k : Nat) : Bool := if k = 8 then r.status.getLsbD 0 else r.value.getLsbD k

/-- ROL on what an earlier ROL left. -/
def rolAgain (r : Alu) : Alu := rolByte r.value r.status

theorem ringBit_rolAgain (r : Alu) {k : Nat} (hk : k < 9) : ringBit (rolAgain r) k = ringBit r ((k + 8) % 9) := by
  have hbit (j : Nat) : (rolAgain r).value.getLsbD j =
      if j = 0 then r.status.getLsbD 0 else decide (j < 8) && r.value.getLsbD (j - 1) := by
    change (r.value.extractLsb' 0 7 ++ BitVec.ofBool (getFlag .carry r.status)).getLsbD j = _
    rw [BitVec.getLsbD_append, getFlag_carry_eq]
    cases j with
    | zero => simp
    | succ j => simp [(by omega : j + 1 < 8 ↔ j < 7)]
  have hcarry : (rolAgain r).status.getLsbD 0 = r.value.getLsbD 7 := rolByte_carry ..
  simp only [ringBit, hbit, hcarry]
  interval_cases k <;> rfl

theorem ringBit_repeat_rolAgain (n : Nat) (r : Alu) {k : Nat} (hk : k < 9) :
    ringBit (Nat.repeat rolAgain n r) k = ringBit r ((k + 8 * n) % 9) := by
  induction n generalizing k with
  | zero => rw [Nat.mul_zero, Nat.add_zero, Nat.mod_eq_of_lt hk]; rfl
  | succ n ih =>
    rw [Nat.repeat, ringBit_rolAgain _ hk, ih (Nat.mod_lt _ (by decide))]
    congr 1
    omega

/-- Nine turns of nine bits are the identity. -/
theorem ringBit_rolAgain_nine (r : Alu) {k : Nat} (hk : k < 9) : ringBit (Nat.repeat rolAgain 9 r) k = ringBit r k := by
  rw [ringBit_repeat_rolAgain 9 r hk, Nat.add_mul_mod_self_right k 8 9, Nat.mod_eq_of_lt hk]

/-- Settles O21: the values as numbers, the carries as bits; ROR undoes ROL, and ROL turns nine bits. -/
theorem shiftsOverNaturals : Obligations.ShiftsOverNaturals := by
  unfold Obligations.ShiftsOverNaturals
  intro v p c
  have hc : c = (p.getLsbD 0).toNat := congrArg Bool.toNat (getFlag_carry_eq p)
  refine ⟨aslByte_value_toNat v p, ?_, lsrByte_value_toNat v p, ?_, ?_, ?_, ?_, ?_, rorByte_rolByte v p, ?_, ?_⟩
  · exact (getLsbD_shifted_status_zero ..).trans (getLsbD_seven v)
  · exact (getLsbD_shifted_status_zero ..).trans (getLsbD_zero_eq_odd v)
  · rw [hc, rolByte_value_toNat]
  · rw [rolByte_carry, getLsbD_seven]
  · rw [hc, rorByte_value_toNat]
  · rw [rorByte_carry, getLsbD_zero_eq_odd]
  · refine BitVec.eq_of_getLsbD_eq fun k hk => ?_
    have hturn := ringBit_rolAgain_nine { value := v, status := p } (by omega : k < 9)
    rwa [ringBit, ringBit, if_neg hk.ne, if_neg hk.ne] at hturn
  · exact ringBit_rolAgain_nine { value := v, status := p } (by decide : 8 < 9)

/-- Settles O4: `decode` of each byte string, evaluated. -/
theorem specWordsDecode : Obligations.SpecWordsDecode := by
  unfold Obligations.SpecWordsDecode
  exact ⟨rfl, rfl, rfl, rfl, rfl, rfl, rfl, rfl, rfl, rfl, rfl⟩

end Sys2Proof.Machine
end
